-- ==== Sys2Proof/Word.lean ====
section
/-! DEFINITION. The widths the spec works in (R7, R10, R300). Every value of the CCB is unsigned. -/

namespace Sys2Proof

/-- A register value: 32 bits, unsigned (R10). -/
abbrev Word := BitVec 32

/-- A byte on the wire or in a byte operand: 8 bits, unsigned (R10). -/
abbrev Byte := BitVec 8

/-- The access descriptor: SIZE[41:40], W[39], OFF[38:32], DATA[31:0] (R300). -/
abbrev Descriptor := BitVec 42

end Sys2Proof
end

