-- ==== Sys2Proof/Syntax.lean ====
section
/-! DEFINITION. The instruction set: one host access is one instruction (00_scope.md R8, 30_encoding.md R300). One
constructor per row of spec/opcode_table.json. -/

namespace Sys2Proof

/-- The rows of the opcode table. A write carries its 32-bit DATA operand whole (R300, R303); a read has no operand
(its DATA field is ignored, R303); a bus error carries the descriptor's four fields. -/
inductive Instr where
  /-- CMD_NOP: no operation (R701). -/
  | cmdNop
  /-- CMD_CRC_INIT: restart the CRC (R508). -/
  | cmdCrcInit
  /-- CMD_DEC_START_FILE: begin decoding a file (signature, then chunks) (R614). -/
  | cmdDecStartFile
  /-- CMD_DEC_START_STREAM: begin decoding a chunk sequence with no signature (R615). -/
  | cmdDecStartStream
  /-- CMD_DEC_END: the input buffer is exhausted (R616). -/
  | cmdDecEnd
  /-- CMD_DEC_ACK: release a verified chunk (R617). -/
  | cmdDecAck
  /-- CMD_DEC_ABORT: stop decoding (R618). -/
  | cmdDecAbort
  /-- CMD_SOFT_RESET: reset the whole block (R702). -/
  | cmdSoftReset
  /-- CMD_ILLEGAL: a CMD write whose command word names no command (R703). -/
  | cmdIllegal (data : Word)
  /-- WR_STATUS: clear sticky flags (R705). -/
  | wrStatus (data : Word)
  /-- WR_IRQ_EN: write the interrupt enables (R707). -/
  | wrIrqEn (data : Word)
  /-- WR_CRC_DATA8: feed one byte to CRCGEN (R506). -/
  | wrCrcData8 (data : Word)
  /-- WR_CRC_DATA32: feed four bytes to CRCGEN (R507). -/
  | wrCrcData32 (data : Word)
  /-- WR_TAG_IN: write TAG_IN (R411). -/
  | wrTagIn (data : Word)
  /-- WR_DEC_DATA8: feed one byte to the decoder (R607). -/
  | wrDecData8 (data : Word)
  /-- WR_RO_CRC_STATE: write of the read-only register CRC_STATE (R709). -/
  | wrRoCrcState (data : Word)
  /-- WR_RO_CRC_RESULT: write of the read-only register CRC_RESULT (R709). -/
  | wrRoCrcResult (data : Word)
  /-- WR_RO_TAG_FLAGS: write of the read-only register TAG_FLAGS (R709). -/
  | wrRoTagFlags (data : Word)
  /-- WR_RO_DEC_STATE: write of the read-only register DEC_STATE (R709). -/
  | wrRoDecState (data : Word)
  /-- WR_RO_DEC_COUNT: write of the read-only register DEC_COUNT (R709). -/
  | wrRoDecCount (data : Word)
  /-- WR_RO_DEC_REMAIN: write of the read-only register DEC_REMAIN (R709). -/
  | wrRoDecRemain (data : Word)
  /-- WR_RO_CH_LEN: write of the read-only register CH_LEN (R709). -/
  | wrRoChLen (data : Word)
  /-- WR_RO_CH_TYPE: write of the read-only register CH_TYPE (R709). -/
  | wrRoChType (data : Word)
  /-- WR_RO_CH_FLAGS: write of the read-only register CH_FLAGS (R709). -/
  | wrRoChFlags (data : Word)
  /-- WR_RO_CH_CRC_STORED: write of the read-only register CH_CRC_STORED (R709). -/
  | wrRoChCrcStored (data : Word)
  /-- WR_RO_CH_CRC_CALC: write of the read-only register CH_CRC_CALC (R709). -/
  | wrRoChCrcCalc (data : Word)
  /-- WR_RO_CH_OFFSET: write of the read-only register CH_OFFSET (R709). -/
  | wrRoChOffset (data : Word)
  /-- WR_RO_CH_COUNT: write of the read-only register CH_COUNT (R709). -/
  | wrRoChCount (data : Word)
  /-- RD_STATUS: read STATUS (R704). -/
  | rdStatus
  /-- RD_IRQ_EN: read IRQ_EN (R706). -/
  | rdIrqEn
  /-- RD_CRC_STATE: read CRC_STATE (R504). -/
  | rdCrcState
  /-- RD_CRC_RESULT: read CRC_RESULT (R505). -/
  | rdCrcResult
  /-- RD_TAG_IN: read TAG_IN (R412). -/
  | rdTagIn
  /-- RD_TAG_FLAGS: read TAG_FLAGS (R413). -/
  | rdTagFlags
  /-- RD_DEC_STATE: read DEC_STATE (R619). -/
  | rdDecState
  /-- RD_DEC_COUNT: read DEC_COUNT (R620). -/
  | rdDecCount
  /-- RD_DEC_REMAIN: read DEC_REMAIN (R621). -/
  | rdDecRemain
  /-- RD_CH_LEN: read CH_LEN (R622). -/
  | rdChLen
  /-- RD_CH_TYPE: read CH_TYPE (R623). -/
  | rdChType
  /-- RD_CH_FLAGS: read CH_FLAGS (R624). -/
  | rdChFlags
  /-- RD_CH_CRC_STORED: read CH_CRC_STORED (R625). -/
  | rdChCrcStored
  /-- RD_CH_CRC_CALC: read CH_CRC_CALC (R626). -/
  | rdChCrcCalc
  /-- RD_CH_OFFSET: read CH_OFFSET (R627). -/
  | rdChOffset
  /-- RD_CH_COUNT: read CH_COUNT (R628). -/
  | rdChCount
  /-- RD_WO_CMD: read of the write-only register CMD (R708). -/
  | rdWoCmd
  /-- RD_WO_CRC_DATA8: read of the write-only register CRC_DATA8 (R708). -/
  | rdWoCrcData8
  /-- RD_WO_CRC_DATA32: read of the write-only register CRC_DATA32 (R708). -/
  | rdWoCrcData32
  /-- RD_WO_DEC_DATA8: read of the write-only register DEC_DATA8 (R708). -/
  | rdWoDecData8
  /-- BUS_ERROR: an access that names no operation (R710). -/
  | busError (size : BitVec 2) (w : BitVec 1) (off : BitVec 7) (data : Word)
deriving DecidableEq, Repr

/-- The row's mnemonic in spec/opcode_table.json. -/
def Instr.mnemonic : Instr → String
  | .cmdNop => "CMD_NOP"
  | .cmdCrcInit => "CMD_CRC_INIT"
  | .cmdDecStartFile => "CMD_DEC_START_FILE"
  | .cmdDecStartStream => "CMD_DEC_START_STREAM"
  | .cmdDecEnd => "CMD_DEC_END"
  | .cmdDecAck => "CMD_DEC_ACK"
  | .cmdDecAbort => "CMD_DEC_ABORT"
  | .cmdSoftReset => "CMD_SOFT_RESET"
  | .cmdIllegal _ => "CMD_ILLEGAL"
  | .wrStatus _ => "WR_STATUS"
  | .wrIrqEn _ => "WR_IRQ_EN"
  | .wrCrcData8 _ => "WR_CRC_DATA8"
  | .wrCrcData32 _ => "WR_CRC_DATA32"
  | .wrTagIn _ => "WR_TAG_IN"
  | .wrDecData8 _ => "WR_DEC_DATA8"
  | .wrRoCrcState _ => "WR_RO_CRC_STATE"
  | .wrRoCrcResult _ => "WR_RO_CRC_RESULT"
  | .wrRoTagFlags _ => "WR_RO_TAG_FLAGS"
  | .wrRoDecState _ => "WR_RO_DEC_STATE"
  | .wrRoDecCount _ => "WR_RO_DEC_COUNT"
  | .wrRoDecRemain _ => "WR_RO_DEC_REMAIN"
  | .wrRoChLen _ => "WR_RO_CH_LEN"
  | .wrRoChType _ => "WR_RO_CH_TYPE"
  | .wrRoChFlags _ => "WR_RO_CH_FLAGS"
  | .wrRoChCrcStored _ => "WR_RO_CH_CRC_STORED"
  | .wrRoChCrcCalc _ => "WR_RO_CH_CRC_CALC"
  | .wrRoChOffset _ => "WR_RO_CH_OFFSET"
  | .wrRoChCount _ => "WR_RO_CH_COUNT"
  | .rdStatus => "RD_STATUS"
  | .rdIrqEn => "RD_IRQ_EN"
  | .rdCrcState => "RD_CRC_STATE"
  | .rdCrcResult => "RD_CRC_RESULT"
  | .rdTagIn => "RD_TAG_IN"
  | .rdTagFlags => "RD_TAG_FLAGS"
  | .rdDecState => "RD_DEC_STATE"
  | .rdDecCount => "RD_DEC_COUNT"
  | .rdDecRemain => "RD_DEC_REMAIN"
  | .rdChLen => "RD_CH_LEN"
  | .rdChType => "RD_CH_TYPE"
  | .rdChFlags => "RD_CH_FLAGS"
  | .rdChCrcStored => "RD_CH_CRC_STORED"
  | .rdChCrcCalc => "RD_CH_CRC_CALC"
  | .rdChOffset => "RD_CH_OFFSET"
  | .rdChCount => "RD_CH_COUNT"
  | .rdWoCmd => "RD_WO_CMD"
  | .rdWoCrcData8 => "RD_WO_CRC_DATA8"
  | .rdWoCrcData32 => "RD_WO_CRC_DATA32"
  | .rdWoDecData8 => "RD_WO_DEC_DATA8"
  | .busError _ _ _ _ => "BUS_ERROR"

end Sys2Proof
end

