-- ==== Sys2Proof/WellFormed.lean ====
section
/-! DEFINITION. Which terms of Instr stand for a row of the opcode table. Only the two fallback rows carry a condition
(R306): CMD_ILLEGAL names no command, BUS_ERROR names no register access. -/

namespace Sys2Proof

/-- The command words of R305: RSVD = 0 and an OPCODE of the map. -/
def namesCommand (data : Word) : Bool :=
  data.extractLsb' 8 24 == 0 &&
    [0x00, 0x01, 0x10, 0x11, 0x12, 0x13, 0x14, 0xFF].contains (data.extractLsb' 0 8)

/-- The accesses of R710: SIZE != 10, a misaligned OFF, or OFF in 0x50 to 0x7F. -/
def namesNoRegister (size : BitVec 2) (off : BitVec 7) : Bool :=
  size != 2 || off.extractLsb' 0 2 != 0 || decide (0x50 ≤ off)

/-- A term that some descriptor decodes to. -/
def Instr.wellFormed : Instr → Bool
  | .cmdIllegal data => !namesCommand data
  | .busError size _ off _ => namesNoRegister size off
  | .cmdNop | .cmdCrcInit | .cmdDecStartFile | .cmdDecStartStream | .cmdDecEnd | .cmdDecAck | .cmdDecAbort
   | .cmdSoftReset | .wrStatus _ | .wrIrqEn _ | .wrCrcData8 _ | .wrCrcData32 _ | .wrTagIn _ | .wrDecData8 _
   | .wrRoCrcState _ | .wrRoCrcResult _ | .wrRoTagFlags _ | .wrRoDecState _ | .wrRoDecCount _ | .wrRoDecRemain _
   | .wrRoChLen _ | .wrRoChType _ | .wrRoChFlags _ | .wrRoChCrcStored _ | .wrRoChCrcCalc _ | .wrRoChOffset _
   | .wrRoChCount _ | .rdStatus | .rdIrqEn | .rdCrcState | .rdCrcResult | .rdTagIn | .rdTagFlags | .rdDecState
   | .rdDecCount | .rdDecRemain | .rdChLen | .rdChType | .rdChFlags | .rdChCrcStored | .rdChCrcCalc
   | .rdChOffset | .rdChCount | .rdWoCmd | .rdWoCrcData8 | .rdWoCrcData32 | .rdWoDecData8 => true

end Sys2Proof
end

