-- ==== Sys2Proof/Decode.lean ====
section
/-! DEFINITION. Decoding of access descriptors (R300 to R309), total on every descriptor and refusing by name a number
that is none; then the encoder, written from the same tables (R124, R305). -/

namespace Sys2Proof

/-! ### The register map (R124) -/

/-- The 20 registers of the window, in the order of their offsets (R124). -/
inductive Reg where
  | cmd
  | status
  | irqEn
  | crcData8
  | crcData32
  | crcState
  | crcResult
  | tagIn
  | tagFlags
  | decData8
  | decState
  | decCount
  | decRemain
  | chLen
  | chType
  | chFlags
  | chCrcStored
  | chCrcCalc
  | chOffset
  | chCount
deriving DecidableEq, Repr

/-- The register at an offset; none for a misaligned or a reserved offset (R124, R302). -/
def regAt (off : BitVec 7) : Option Reg :=
  match off with
  | 0x00#7 => some .cmd
  | 0x04#7 => some .status
  | 0x08#7 => some .irqEn
  | 0x0C#7 => some .crcData8
  | 0x10#7 => some .crcData32
  | 0x14#7 => some .crcState
  | 0x18#7 => some .crcResult
  | 0x1C#7 => some .tagIn
  | 0x20#7 => some .tagFlags
  | 0x24#7 => some .decData8
  | 0x28#7 => some .decState
  | 0x2C#7 => some .decCount
  | 0x30#7 => some .decRemain
  | 0x34#7 => some .chLen
  | 0x38#7 => some .chType
  | 0x3C#7 => some .chFlags
  | 0x40#7 => some .chCrcStored
  | 0x44#7 => some .chCrcCalc
  | 0x48#7 => some .chOffset
  | 0x4C#7 => some .chCount
  | _ => none

/-- The offset of a register (R124). -/
def regOffset : Reg → BitVec 7
  | .cmd => 0x00
  | .status => 0x04
  | .irqEn => 0x08
  | .crcData8 => 0x0C
  | .crcData32 => 0x10
  | .crcState => 0x14
  | .crcResult => 0x18
  | .tagIn => 0x1C
  | .tagFlags => 0x20
  | .decData8 => 0x24
  | .decState => 0x28
  | .decCount => 0x2C
  | .decRemain => 0x30
  | .chLen => 0x34
  | .chType => 0x38
  | .chFlags => 0x3C
  | .chCrcStored => 0x40
  | .chCrcCalc => 0x44
  | .chOffset => 0x48
  | .chCount => 0x4C

/-! ### Fields of a descriptor (R300) -/

def sizeField (d : Descriptor) : BitVec 2 := d.extractLsb' 40 2
def writeField (d : Descriptor) : BitVec 1 := d.extractLsb' 39 1
def offField (d : Descriptor) : BitVec 7 := d.extractLsb' 32 7
def dataField (d : Descriptor) : Word := d.extractLsb' 0 32

/-! ### Decoding (R306) -/

/-- Step 3 of R306: a CMD write, by its command word (R304, R305). -/
def decodeCommand (data : Word) : Instr :=
  if data.extractLsb' 8 24 = 0 then
    match data.extractLsb' 0 8 with
    | 0x00#8 => .cmdNop
    | 0x01#8 => .cmdCrcInit
    | 0x10#8 => .cmdDecStartFile
    | 0x11#8 => .cmdDecStartStream
    | 0x12#8 => .cmdDecEnd
    | 0x13#8 => .cmdDecAck
    | 0x14#8 => .cmdDecAbort
    | 0xFF#8 => .cmdSoftReset
    | _ => .cmdIllegal data
  else .cmdIllegal data

/-- Step 2 of R306: a read, by its register. -/
def decodeRead : Reg → Instr
  | .cmd => .rdWoCmd
  | .status => .rdStatus
  | .irqEn => .rdIrqEn
  | .crcData8 => .rdWoCrcData8
  | .crcData32 => .rdWoCrcData32
  | .crcState => .rdCrcState
  | .crcResult => .rdCrcResult
  | .tagIn => .rdTagIn
  | .tagFlags => .rdTagFlags
  | .decData8 => .rdWoDecData8
  | .decState => .rdDecState
  | .decCount => .rdDecCount
  | .decRemain => .rdDecRemain
  | .chLen => .rdChLen
  | .chType => .rdChType
  | .chFlags => .rdChFlags
  | .chCrcStored => .rdChCrcStored
  | .chCrcCalc => .rdChCrcCalc
  | .chOffset => .rdChOffset
  | .chCount => .rdChCount

/-- Steps 3 and 4 of R306: a write, by its register. -/
def decodeWrite (r : Reg) (data : Word) : Instr :=
  match r with
  | .cmd => decodeCommand data
  | .status => .wrStatus data
  | .irqEn => .wrIrqEn data
  | .crcData8 => .wrCrcData8 data
  | .crcData32 => .wrCrcData32 data
  | .crcState => .wrRoCrcState data
  | .crcResult => .wrRoCrcResult data
  | .tagIn => .wrTagIn data
  | .tagFlags => .wrRoTagFlags data
  | .decData8 => .wrDecData8 data
  | .decState => .wrRoDecState data
  | .decCount => .wrRoDecCount data
  | .decRemain => .wrRoDecRemain data
  | .chLen => .wrRoChLen data
  | .chType => .wrRoChType data
  | .chFlags => .wrRoChFlags data
  | .chCrcStored => .wrRoChCrcStored data
  | .chCrcCalc => .wrRoChCrcCalc data
  | .chOffset => .wrRoChOffset data
  | .chCount => .wrRoChCount data

/-- The decode procedure of R306. Step 1 is its last line: SIZE != 10, or no register at OFF. -/
def decode (d : Descriptor) : Instr :=
  match sizeField d, regAt (offField d) with
  | 0b10#2, some r => if writeField d = 1 then decodeWrite r (dataField d) else decodeRead r
  | size, _ => .busError size (writeField d) (offField d) (dataField d)

/-- Why a number is no access. -/
inductive DecodeError where
  /-- The number has a bit above bit 41, so it is no 42-bit access descriptor (R300). -/
  | notADescriptor
deriving DecidableEq, Repr

/-- Decoding of any number: a descriptor is decoded, anything longer is refused by name. -/
def decodeNumber (n : Nat) : Except DecodeError Instr :=
  if n < 2 ^ 42 then .ok (decode (BitVec.ofNat 42 n)) else .error .notADescriptor

/-- The decoder, on the low `nbits` bits of a number numbered as spec/opcode_table.json numbers a row: bit 0 of the
descriptor is bit 0 of the number. -/
def decodeTableWord (nbits w : Nat) : Option Instr :=
  match decodeNumber (w % 2 ^ nbits) with
  | .ok i => some i
  | .error _ => none

/-! ### The encoder -/

/-- `SIZE << 40 | W << 39 | OFF << 32 | DATA` (R300). -/
def descriptor (size : BitVec 2) (w : BitVec 1) (off : BitVec 7) (data : Word) : Descriptor :=
  size ++ w ++ off ++ data

/-- A 32-bit read of a register: DATA is 0 (R300, R310). -/
def readDescriptor (r : Reg) : Descriptor := descriptor 0b10 0 (regOffset r) 0

/-- A 32-bit write of a register (R310). -/
def writeDescriptor (r : Reg) (data : Word) : Descriptor := descriptor 0b10 1 (regOffset r) data

/-- The descriptor of an instruction (R124, R300, R305). -/
def encode : Instr → Descriptor
  | .cmdNop => writeDescriptor .cmd 0x00
  | .cmdCrcInit => writeDescriptor .cmd 0x01
  | .cmdDecStartFile => writeDescriptor .cmd 0x10
  | .cmdDecStartStream => writeDescriptor .cmd 0x11
  | .cmdDecEnd => writeDescriptor .cmd 0x12
  | .cmdDecAck => writeDescriptor .cmd 0x13
  | .cmdDecAbort => writeDescriptor .cmd 0x14
  | .cmdSoftReset => writeDescriptor .cmd 0xFF
  | .cmdIllegal data => writeDescriptor .cmd data
  | .wrStatus data => writeDescriptor .status data
  | .wrIrqEn data => writeDescriptor .irqEn data
  | .wrCrcData8 data => writeDescriptor .crcData8 data
  | .wrCrcData32 data => writeDescriptor .crcData32 data
  | .wrTagIn data => writeDescriptor .tagIn data
  | .wrDecData8 data => writeDescriptor .decData8 data
  | .wrRoCrcState data => writeDescriptor .crcState data
  | .wrRoCrcResult data => writeDescriptor .crcResult data
  | .wrRoTagFlags data => writeDescriptor .tagFlags data
  | .wrRoDecState data => writeDescriptor .decState data
  | .wrRoDecCount data => writeDescriptor .decCount data
  | .wrRoDecRemain data => writeDescriptor .decRemain data
  | .wrRoChLen data => writeDescriptor .chLen data
  | .wrRoChType data => writeDescriptor .chType data
  | .wrRoChFlags data => writeDescriptor .chFlags data
  | .wrRoChCrcStored data => writeDescriptor .chCrcStored data
  | .wrRoChCrcCalc data => writeDescriptor .chCrcCalc data
  | .wrRoChOffset data => writeDescriptor .chOffset data
  | .wrRoChCount data => writeDescriptor .chCount data
  | .rdStatus => readDescriptor .status
  | .rdIrqEn => readDescriptor .irqEn
  | .rdCrcState => readDescriptor .crcState
  | .rdCrcResult => readDescriptor .crcResult
  | .rdTagIn => readDescriptor .tagIn
  | .rdTagFlags => readDescriptor .tagFlags
  | .rdDecState => readDescriptor .decState
  | .rdDecCount => readDescriptor .decCount
  | .rdDecRemain => readDescriptor .decRemain
  | .rdChLen => readDescriptor .chLen
  | .rdChType => readDescriptor .chType
  | .rdChFlags => readDescriptor .chFlags
  | .rdChCrcStored => readDescriptor .chCrcStored
  | .rdChCrcCalc => readDescriptor .chCrcCalc
  | .rdChOffset => readDescriptor .chOffset
  | .rdChCount => readDescriptor .chCount
  | .rdWoCmd => readDescriptor .cmd
  | .rdWoCrcData8 => readDescriptor .crcData8
  | .rdWoCrcData32 => readDescriptor .crcData32
  | .rdWoDecData8 => readDescriptor .decData8
  | .busError size w off data => descriptor size w off data

/-! ### The opcode table -/

/-- A row of spec/opcode_table.json. -/
structure Row where
  mnemonic : String
  pattern : Descriptor
  mask : Descriptor
  fallback : Bool
deriving DecidableEq, Repr

def commandRows : List Row := [
  ⟨"CMD_NOP", 0x28000000000, 0x3FFFFFFFFFF, false⟩,
  ⟨"CMD_CRC_INIT", 0x28000000001, 0x3FFFFFFFFFF, false⟩,
  ⟨"CMD_DEC_START_FILE", 0x28000000010, 0x3FFFFFFFFFF, false⟩,
  ⟨"CMD_DEC_START_STREAM", 0x28000000011, 0x3FFFFFFFFFF, false⟩,
  ⟨"CMD_DEC_END", 0x28000000012, 0x3FFFFFFFFFF, false⟩,
  ⟨"CMD_DEC_ACK", 0x28000000013, 0x3FFFFFFFFFF, false⟩,
  ⟨"CMD_DEC_ABORT", 0x28000000014, 0x3FFFFFFFFFF, false⟩,
  ⟨"CMD_SOFT_RESET", 0x280000000FF, 0x3FFFFFFFFFF, false⟩,
  ⟨"CMD_ILLEGAL", 0x28000000000, 0x3FF00000000, true⟩]

def writeRows : List Row := [
  ⟨"WR_STATUS", 0x28400000000, 0x3FF00000000, false⟩,
  ⟨"WR_IRQ_EN", 0x28800000000, 0x3FF00000000, false⟩,
  ⟨"WR_CRC_DATA8", 0x28C00000000, 0x3FF00000000, false⟩,
  ⟨"WR_CRC_DATA32", 0x29000000000, 0x3FF00000000, false⟩,
  ⟨"WR_TAG_IN", 0x29C00000000, 0x3FF00000000, false⟩,
  ⟨"WR_DEC_DATA8", 0x2A400000000, 0x3FF00000000, false⟩,
  ⟨"WR_RO_CRC_STATE", 0x29400000000, 0x3FF00000000, false⟩,
  ⟨"WR_RO_CRC_RESULT", 0x29800000000, 0x3FF00000000, false⟩,
  ⟨"WR_RO_TAG_FLAGS", 0x2A000000000, 0x3FF00000000, false⟩,
  ⟨"WR_RO_DEC_STATE", 0x2A800000000, 0x3FF00000000, false⟩,
  ⟨"WR_RO_DEC_COUNT", 0x2AC00000000, 0x3FF00000000, false⟩,
  ⟨"WR_RO_DEC_REMAIN", 0x2B000000000, 0x3FF00000000, false⟩,
  ⟨"WR_RO_CH_LEN", 0x2B400000000, 0x3FF00000000, false⟩,
  ⟨"WR_RO_CH_TYPE", 0x2B800000000, 0x3FF00000000, false⟩,
  ⟨"WR_RO_CH_FLAGS", 0x2BC00000000, 0x3FF00000000, false⟩,
  ⟨"WR_RO_CH_CRC_STORED", 0x2C000000000, 0x3FF00000000, false⟩,
  ⟨"WR_RO_CH_CRC_CALC", 0x2C400000000, 0x3FF00000000, false⟩,
  ⟨"WR_RO_CH_OFFSET", 0x2C800000000, 0x3FF00000000, false⟩,
  ⟨"WR_RO_CH_COUNT", 0x2CC00000000, 0x3FF00000000, false⟩]

def readRows : List Row := [
  ⟨"RD_STATUS", 0x20400000000, 0x3FF00000000, false⟩,
  ⟨"RD_IRQ_EN", 0x20800000000, 0x3FF00000000, false⟩,
  ⟨"RD_CRC_STATE", 0x21400000000, 0x3FF00000000, false⟩,
  ⟨"RD_CRC_RESULT", 0x21800000000, 0x3FF00000000, false⟩,
  ⟨"RD_TAG_IN", 0x21C00000000, 0x3FF00000000, false⟩,
  ⟨"RD_TAG_FLAGS", 0x22000000000, 0x3FF00000000, false⟩,
  ⟨"RD_DEC_STATE", 0x22800000000, 0x3FF00000000, false⟩,
  ⟨"RD_DEC_COUNT", 0x22C00000000, 0x3FF00000000, false⟩,
  ⟨"RD_DEC_REMAIN", 0x23000000000, 0x3FF00000000, false⟩,
  ⟨"RD_CH_LEN", 0x23400000000, 0x3FF00000000, false⟩,
  ⟨"RD_CH_TYPE", 0x23800000000, 0x3FF00000000, false⟩,
  ⟨"RD_CH_FLAGS", 0x23C00000000, 0x3FF00000000, false⟩,
  ⟨"RD_CH_CRC_STORED", 0x24000000000, 0x3FF00000000, false⟩,
  ⟨"RD_CH_CRC_CALC", 0x24400000000, 0x3FF00000000, false⟩,
  ⟨"RD_CH_OFFSET", 0x24800000000, 0x3FF00000000, false⟩,
  ⟨"RD_CH_COUNT", 0x24C00000000, 0x3FF00000000, false⟩,
  ⟨"RD_WO_CMD", 0x20000000000, 0x3FF00000000, false⟩,
  ⟨"RD_WO_CRC_DATA8", 0x20C00000000, 0x3FF00000000, false⟩,
  ⟨"RD_WO_CRC_DATA32", 0x21000000000, 0x3FF00000000, false⟩,
  ⟨"RD_WO_DEC_DATA8", 0x22400000000, 0x3FF00000000, false⟩]

def busErrorRows : List Row := [
  ⟨"BUS_ERROR", 0x00000000000, 0x00000000000, true⟩]

/-- spec/opcode_table.json. `decode` does not read it; the two are shown to agree. -/
def opcodeTable : List Row := commandRows ++ writeRows ++ readRows ++ busErrorRows

/-- A descriptor fits a row's fixed bits. -/
def Row.fits (r : Row) (d : Descriptor) : Bool := d &&& r.mask == r.pattern

end Sys2Proof
end

