-- ==== Sys2Proof/Config.lean ====
section
/-! DEFINITION. What is fixed for one machine and is not state (10_state.md section 6): the signature bytes and the
window's base address. -/

namespace Sys2Proof

/-- `PNG_SIG`, byte 0 first (R601, R7). The spec fixes the bytes; D30 also allows a parameter (log entry 6). -/
def Config.pngSig : Vector Byte 8 := #v[0x89, 0x50, 0x4E, 0x47, 0x0D, 0x0A, 0x1A, 0x0A]

/-- Which 128-byte block of the bus's address space the window is. OPEN in the spec (R7, D2, U7): no value is known,
and no instruction's effect depends on it (log entry 5). -/
opaque Config.ccbBlock : Nat

/-- `CCB_BASE`: the bus address of offset 0x00, 128-byte aligned (R7). -/
def Config.ccbBase : Nat := 128 * Config.ccbBlock

end Sys2Proof
end

