-- ==== Sys2Proof/Machine/State.lean ====
section
/-! DEFINITION. The state: the 18 elements the spec gives the CCB (10_state.md R101 to R118), and the model's own bus
port (log entries 1 and 2). -/

namespace Sys2Proof.Machine

/-- DEC_PHASE (R106, R602). Values 9 to 15 are never produced; X5 and D42 allow a 9-value enumeration (log entry 4). -/
inductive Phase where
  | idle | sig | len | type | payload | crc | ready | done | error
deriving DecidableEq, Repr

/-- DEC_ERR (R110, R801). Codes 6 to 15 are never produced; X6 treats them as X5 (log entry 4). -/
inductive DecErr where
  | noError | badSignature | chunkTooShort | invalidChunkType | truncated | crcMismatch
deriving DecidableEq, Repr

/-- The state elements of the CCB, R101 to R118 in order. "No other state exists" (10_state.md section 6). -/
structure Ccb where
  crcState    : Word       -- CRC_STATE, R101
  tagIn       : Word       -- TAG_IN, R102
  irqEn       : Word       -- IRQ_EN, R103: bits other than 0, 1, 2, 8, 9 are hardwired 0
  cmdErr      : Bool       -- CMD_ERR, R104
  ovf         : Bool       -- OVF, R105
  decPhase    : Phase      -- DEC_PHASE, R106
  decMode     : Bool       -- DEC_MODE, R107
  decFpos     : BitVec 3   -- DEC_FPOS, R108
  decTagBad   : Bool       -- DEC_TAG_BAD, R109
  decErr      : DecErr     -- DEC_ERR, R110
  decCount    : Word       -- DEC_COUNT, R111
  decRemain   : Word       -- DEC_REMAIN, R112
  decCrc      : Word       -- DEC_CRC, R113
  chLen       : Word       -- CH_LEN, R114
  chType      : Word       -- CH_TYPE, R115
  chCrcStored : Word       -- CH_CRC_STORED, R116
  chOffset    : Word       -- CH_OFFSET, R117
  chCount     : Word       -- CH_COUNT, R118
deriving DecidableEq, Repr

/-- What the host can do at the bus port (R913): one access, or a hardware reset between accesses. -/
inductive HostEvent where
  | access (d : Descriptor)
  | reset
deriving DecidableEq, Repr

/-- The outcome of one access (R9, R914). -/
inductive Response where
  /-- A write completed. -/
  | written
  /-- A read completed with this value. -/
  | value (v : Word)
  /-- The access faulted with BusError({W, SIZE, OFF}) (R710); appended only where a run goes on (Machine/Run.lean). -/
  | busError (w : BitVec 1) (size : BitVec 2) (off : BitVec 7)
deriving DecidableEq, Repr

/-- The CCB and its bus port. `pending` and `log` are the model's own fields, not the spec's: the accesses the CCB has
not served yet, oldest first (R208, log entry 1), and the outcomes of those it has, oldest first (R914, log entry 2). -/
structure State where
  ccb     : Ccb
  pending : List HostEvent
  log     : List Response
deriving DecidableEq, Repr

/-- The faults of an access. -/
inductive Fault where
  /-- BusError({W, SIZE, OFF}): raised by BUS_ERROR alone (R710), because the spec gives that access the outcome
  "fault" (R9, R800). Safe: no state element changes, and the model says nothing of what follows. -/
  | busError (w : BitVec 1) (size : BitVec 2) (off : BitVec 7)
deriving DecidableEq, Repr

/-- The refusals of a step. -/
inductive Refusal where
  /-- An instruction of the opcode table with no meaning yet: raised by an arm of exec. No arm raises it now. Safe. -/
  | notModelled (mnemonic : String)
deriving DecidableEq, Repr

/-- The reset values of R101 to R118 (R900): CRC_STATE and DEC_CRC 0xFFFFFFFF, DEC_PHASE IDLE, every other element 0. -/
def Ccb.reset : Ccb where
  crcState    := 0xFFFFFFFF
  tagIn       := 0
  irqEn       := 0
  cmdErr      := false
  ovf         := false
  decPhase    := .idle
  decMode     := false
  decFpos     := 0
  decTagBad   := false
  decErr      := .noError
  decCount    := 0
  decRemain   := 0
  decCrc      := 0xFFFFFFFF
  chLen       := 0
  chType      := 0
  chCrcStored := 0
  chOffset    := 0
  chCount     := 0

/-- The machine right after hardware reset (R900), with no access at the port. -/
def State.reset : State where
  ccb     := Ccb.reset
  pending := []
  log     := []

end Sys2Proof.Machine
end

