-- ==== Sys2Proof/Machine/Operands.lean ====
section
/-! DEFINITION. The operand forms of a write's DATA field (30_encoding.md R303) and the byte order of 32-bit views
(20_memory.md R204). No operand is sign-extended, scaled or shifted (R303). -/

namespace Sys2Proof.Machine

/-- The byte operand of CRC_DATA8 and DEC_DATA8: DATA[7:0]; DATA[31:8] is ignored (R303). -/
def byteOperand (data : Word) : Byte := data.extractLsb' 0 8

/-- Wire byte 0 of a 32-bit view: bits [31:24] (R204). -/
def wireByte0 (w : Word) : Byte := w.extractLsb' 24 8
/-- Wire byte 1 of a 32-bit view: bits [23:16] (R204). -/
def wireByte1 (w : Word) : Byte := w.extractLsb' 16 8
/-- Wire byte 2 of a 32-bit view: bits [15:8] (R204). -/
def wireByte2 (w : Word) : Byte := w.extractLsb' 8 8
/-- Wire byte 3 of a 32-bit view: bits [7:0] (R204). -/
def wireByte3 (w : Word) : Byte := w.extractLsb' 0 8

/-- The four bytes of a 32-bit view in wire order, which is also the order CRC_DATA32 feeds them in (R204, R303). -/
def wireBytes (w : Word) : List Byte := [wireByte0 w, wireByte1 w, wireByte2 w, wireByte3 w]

/-- `(x << 8 | b) mod 2^32`, the shift-in of the 32-bit field registers (R10). -/
def shiftIn (x : Word) (b : Byte) : Word := (x <<< 8) ||| b.setWidth 32

/-- The bits of IRQ_EN that exist: 0, 1, 2, 8 and 9 (R103, R126). -/
def irqEnMask : Word := 0x00000307

/-- What a write of IRQ_EN stores: `DATA and 0x00000307` (R707). -/
def irqEnOperand (data : Word) : Word := data &&& irqEnMask

/-- The W1C strobe of CMD_ERR in a STATUS write: DATA[8] (R705). -/
def clearsCmdErr (data : Word) : Bool := data.getLsbD 8

/-- The W1C strobe of OVF in a STATUS write: DATA[9] (R705). -/
def clearsOvf (data : Word) : Bool := data.getLsbD 9

end Sys2Proof.Machine
end

