-- ==== Sys2Proof/Machine/Flags.lean ====
section
/-! DEFINITION. The derived signals (10_state.md R119 to R123, R125, R127) and the type-tag predicates (40_type_tag.md
R400 to R409): functions of the state elements, not state. -/

namespace Sys2Proof.Machine

/-! ### Encodings of the enumerations -/

/-- The 4-bit value of DEC_PHASE (R602). -/
def phaseCode : Phase → BitVec 4
  | .idle => 0
  | .sig => 1
  | .len => 2
  | .type => 3
  | .payload => 4
  | .crc => 5
  | .ready => 6
  | .done => 7
  | .error => 8

/-- The 4-bit value of DEC_ERR (R801). -/
def errCode : DecErr → BitVec 4
  | .noError => 0
  | .badSignature => 1
  | .chunkTooShort => 2
  | .invalidChunkType => 3
  | .truncated => 4
  | .crcMismatch => 5

/-- The accepting phases: SIG, LEN, TYPE, PAYLOAD and CRC (R603). -/
def accepting : Phase → Bool
  | .sig => true
  | .len => true
  | .type => true
  | .payload => true
  | .crc => true
  | .idle => false
  | .ready => false
  | .done => false
  | .error => false

/-! ### Type tags -/

/-- An ASCII letter: 0x41 to 0x5A or 0x61 to 0x7A (R400). -/
def isAlpha (b : Byte) : Bool :=
  (decide (0x41#8 ≤ b) && decide (b ≤ 0x5A#8)) || (decide (0x61#8 ≤ b) && decide (b ≤ 0x7A#8))

/-- ALPHA: all four type-tag bytes are letters (R402). -/
def tagAlpha (t : Word) : Bool :=
  isAlpha (wireByte0 t) && isAlpha (wireByte1 t) && isAlpha (wireByte2 t) && isAlpha (wireByte3 t)

/-- CRITICAL: bit 5 of byte 0 is clear (R403). -/
def tagCritical (t : Word) : Bool := !(wireByte0 t).getLsbD 5

/-- PUBLIC: bit 5 of byte 1 is clear (R404). -/
def tagPublic (t : Word) : Bool := !(wireByte1 t).getLsbD 5

/-- RESERVED_OK: bit 5 of byte 2 is clear (R405). -/
def tagReservedOk (t : Word) : Bool := !(wireByte2 t).getLsbD 5

/-- SAFE_TO_COPY: bit 5 of byte 3 is set (R406). -/
def tagSafeToCopy (t : Word) : Bool := (wireByte3 t).getLsbD 5

/-- VALID: ALPHA and RESERVED_OK (R407, C6). -/
def tagValid (t : Word) : Bool := tagAlpha t && tagReservedOk t

/-- `tag_flags(t)`, for any byte values (R402 to R409). -/
def tagFlags (t : Word) : Word :=
  (BitVec.ofBool (tagValid t) ++ BitVec.ofBool (tagSafeToCopy t) ++ BitVec.ofBool (tagReservedOk t) ++
    BitVec.ofBool (tagPublic t) ++ BitVec.ofBool (tagCritical t) ++ BitVec.ofBool (tagAlpha t)).setWidth 32

/-! ### Register views -/

/-- CRC_RESULT (R119). -/
def crcResult (c : Ccb) : Word := c.crcState ^^^ 0xFFFFFFFF

/-- CH_CRC_CALC (R122). -/
def chCrcCalc (c : Ccb) : Word := c.decCrc ^^^ 0xFFFFFFFF

/-- STATUS (R125, R704). -/
def statusWord (c : Ccb) : Word :=
  (BitVec.ofBool c.ovf ++ BitVec.ofBool c.cmdErr ++ errCode c.decErr ++ 0#1 ++
    BitVec.ofBool (c.decPhase == .error) ++ BitVec.ofBool (c.decPhase == .done) ++
    BitVec.ofBool (c.decPhase == .ready)).setWidth 32

/-- DEC_STATE (R127, R619). -/
def decStateWord (c : Ccb) : Word :=
  (c.decFpos ++ 0#2 ++ BitVec.ofBool c.decTagBad ++ BitVec.ofBool c.decMode ++ phaseCode c.decPhase).setWidth 32

/-- The interrupt output: a STATUS bit among 0, 1, 2, 8 and 9 is 1 with its enable (R123, R807). -/
def irq (c : Ccb) : Bool :=
  [0, 1, 2, 8, 9].any fun n => (statusWord c).getLsbD n && c.irqEn.getLsbD n

end Sys2Proof.Machine
end

