-- ==== Sys2Proof/Machine/Ops.lean ====
section
/-! DEFINITION. The operations every meaning is written over: completing an access, the bus fault, the CRC step, the
decoder's entry into ERROR and its return (DecInit), a rejected command, reset, and the bus port. -/

namespace Sys2Proof.Machine

/-! ### Outcomes of an access (R9) -/

/-- A write completes with the CCB in state `c`; its outcome is recorded (log entry 2). -/
def completeWrite (c : Ccb) (s : State) : Host.Outcome State Fault Refusal :=
  .next { s with ccb := c, log := s.log ++ [.written] }

/-- A read completes with value `v`; no state element changes (R207). -/
def completeRead (v : Word) (s : State) : Host.Outcome State Fault Refusal :=
  .next { s with log := s.log ++ [.value v] }

/-- `raise BusError({W, SIZE, OFF})` (R710). -/
def raiseBusError (w : BitVec 1) (size : BitVec 2) (off : BitVec 7) : Host.Outcome State Fault Refusal :=
  .fault (.busError w size off)

/-! ### The CRC (R500, R501) -/

/-- One round of `crc_step`: shift right, and xor the constant if bit 0 was 1 (R501). -/
def crcRound (c : Word) : Word := if c.getLsbD 0 then (c >>> 1) ^^^ 0xEDB88320 else c >>> 1

/-- `n` rounds. -/
def crcRounds : Nat → Word → Word
  | 0, c => c
  | n + 1, c => crcRounds n (crcRound c)

/-- `crc_step(c, b)` (R501). -/
def crcStep (c : Word) (b : Byte) : Word := crcRounds 8 (c ^^^ b.setWidth 32)

/-- `fold(crc_step, c, d)` (R500). -/
def crcFold (c : Word) (d : List Byte) : Word := d.foldl crcStep c

/-- `crc32(d)` (R500). -/
def crc32 (d : List Byte) : Word := crcFold 0xFFFFFFFF d ^^^ 0xFFFFFFFF

/-! ### The decoder's error entry and return -/

/-- `EnterError(code)`: the whole effect of a decoder error; no trap is taken and nothing is saved (R606, R805). -/
def enterError (e : DecErr) (c : Ccb) : Ccb :=
  { c with decPhase := .error, decErr := e, decFpos := 0 }

/-- `DecInit(phase, mode)` (R605): also the only way out of ERROR besides a reset (R631, R806). -/
def decInit (p : Phase) (mode : Bool) (c : Ccb) : Ccb :=
  { c with
    decPhase := p, decMode := mode, decFpos := 0, decTagBad := false, decErr := .noError
    decCount := 0, decRemain := 0, decCrc := 0xFFFFFFFF
    chLen := 0, chType := 0, chCrcStored := 0, chOffset := 0, chCount := 0 }

/-! ### Commands and reset -/

/-- An illegal command, or one issued in a wrong phase: CMD_ERR <- 1 and nothing else (R700, R703). -/
def rejectCommand (c : Ccb) : Ccb := { c with cmdErr := true }

/-- Every state element takes its reset value (R702, R900). -/
def resetElements (_ : Ccb) : Ccb := Ccb.reset

/-! ### The bus port (R208, R913; log entries 1 and 9) -/

/-- A hardware reset is asserted and released between accesses (R900). -/
def hardwareReset (s : State) : State := { s with ccb := resetElements s.ccb }

/-- The port hands over its oldest event; `rest` stays pending. -/
def popPending (rest : List HostEvent) (s : State) : State := { s with pending := rest }

/-- The host puts an access at the head of the port. -/
def pushAccess (d : Descriptor) (s : State) : State := { s with pending := .access d :: s.pending }

/-- No access is at the port: the CCB is passive and changes nothing (R8). -/
def idleStep (s : State) : Host.Outcome State Fault Refusal := .next s

end Sys2Proof.Machine
end

