-- ==== Sys2Proof/Machine/Control.lean ====
section
/-! DEFINITION. The control unit (43_control.md): the commands that are not a unit's own, STATUS and IRQ_EN. The phase
check of R700 stands in the two commands it concerns, CMD_DEC_END and CMD_DEC_ACK (Machine/Decoder.lean). -/

namespace Sys2Proof.Machine

/-- CMD_NOP: no state element changes (R701). -/
def execCmdNop (s : State) : Host.Outcome State Fault Refusal := completeWrite s.ccb s

/-- CMD_SOFT_RESET: exactly the hardware reset of the 18 elements (R702, R901). -/
def execCmdSoftReset (s : State) : Host.Outcome State Fault Refusal :=
  completeWrite (resetElements s.ccb) s

/-- CMD_ILLEGAL (R703). -/
def execCmdIllegal (_data : Word) (s : State) : Host.Outcome State Fault Refusal :=
  completeWrite (rejectCommand s.ccb) s

/-- RD_STATUS: reading clears nothing (R704). -/
def execRdStatus (s : State) : Host.Outcome State Fault Refusal := completeRead (statusWord s.ccb) s

/-- WR_STATUS: W1C of CMD_ERR and OVF (R705). -/
def execWrStatus (data : Word) (s : State) : Host.Outcome State Fault Refusal :=
  completeWrite
    { s.ccb with
      cmdErr := if clearsCmdErr data then false else s.ccb.cmdErr
      ovf := if clearsOvf data then false else s.ccb.ovf } s

/-- RD_IRQ_EN (R706). -/
def execRdIrqEn (s : State) : Host.Outcome State Fault Refusal := completeRead s.ccb.irqEn s

/-- WR_IRQ_EN (R707). -/
def execWrIrqEn (data : Word) (s : State) : Host.Outcome State Fault Refusal :=
  completeWrite { s.ccb with irqEn := irqEnOperand data } s

end Sys2Proof.Machine
end

