-- ==== Sys2Proof/Machine/Crcgen.lean ====
section
/-! DEFINITION. The accesses of the CRC-32 generator (41_crc.md section 2). -/

namespace Sys2Proof.Machine

/-- RD_CRC_STATE (R504). -/
def execRdCrcState (s : State) : Host.Outcome State Fault Refusal := completeRead s.ccb.crcState s

/-- RD_CRC_RESULT (R505). -/
def execRdCrcResult (s : State) : Host.Outcome State Fault Refusal := completeRead (crcResult s.ccb) s

/-- WR_CRC_DATA8: one byte (R506). -/
def execWrCrcData8 (data : Word) (s : State) : Host.Outcome State Fault Refusal :=
  completeWrite { s.ccb with crcState := crcStep s.ccb.crcState (byteOperand data) } s

/-- WR_CRC_DATA32: four bytes, DATA[31:24] first (R507). -/
def execWrCrcData32 (data : Word) (s : State) : Host.Outcome State Fault Refusal :=
  completeWrite { s.ccb with crcState := crcFold s.ccb.crcState (wireBytes data) } s

/-- CMD_CRC_INIT (R508). -/
def execCmdCrcInit (s : State) : Host.Outcome State Fault Refusal :=
  completeWrite { s.ccb with crcState := 0xFFFFFFFF } s

end Sys2Proof.Machine
end

