-- ==== Sys2Proof/Machine/Decoder.lean ====
section
/-! DEFINITION. The chunk decoder (42_chunk_decoder.md): its byte input, its commands and its reads. -/

namespace Sys2Proof.Machine

/-! ### The byte input -/

/-- `k`, the number of accepted bytes of the current chunk, on naturals (R604). No rule reads it in a phase outside LEN,
TYPE, PAYLOAD and CRC, where no chunk is being accepted (log entry 8). -/
def chunkBytes (c : Ccb) : Nat :=
  match c.decPhase with
  | .len => c.decFpos.toNat
  | .type => 4 + c.decFpos.toNat
  | .payload => 8 + (c.chLen.toNat - c.decRemain.toNat)
  | .crc => 8 + c.chLen.toNat + c.decFpos.toNat
  | .idle => 0
  | .sig => 0
  | .ready => 0
  | .done => 0
  | .error => 0

/-- `PNG_SIG[i]` (R601). -/
def sigByte (i : BitVec 3) : Byte := Config.pngSig.get i.toFin

/-- `SigStep(b)` (R608). -/
def sigStep (b : Byte) (c : Ccb) : Ccb :=
  if b ≠ sigByte c.decFpos then enterError .badSignature c
  else if c.decFpos = 7 then { c with decPhase := .len, decFpos := 0 }
  else { c with decFpos := c.decFpos + 1 }

/-- The first byte of a new chunk: its fields are cleared and its offset recorded (R609). -/
def beginChunk (old : Word) (c : Ccb) : Ccb :=
  { c with
    chOffset := old
    chLen := 0, chType := 0, chCrcStored := 0
    decRemain := 0, decTagBad := false, decCrc := 0xFFFFFFFF }

/-- The field position advances, or the four-byte field ends and `p` follows. -/
def advanceField (p : Phase) (c : Ccb) : Ccb :=
  if c.decFpos = 3 then { c with decPhase := p, decFpos := 0 } else { c with decFpos := c.decFpos + 1 }

/-- `LenStep(b, old)` (R609). -/
def lenStep (b : Byte) (old : Word) (c : Ccb) : Ccb :=
  let c := if c.decFpos = 0 then beginChunk old c else c
  advanceField .type { c with chLen := shiftIn c.chLen b }

/-- `TypeStep(b)` (R610). A non-letter byte is only recorded here (R613). -/
def typeStep (b : Byte) (c : Ccb) : Ccb :=
  let c := { c with
    chType := shiftIn c.chType b
    decTagBad := c.decTagBad || !isAlpha b
    decCrc := crcStep c.decCrc b }
  if c.decFpos = 3 then
    { c with decRemain := c.chLen, decFpos := 0, decPhase := if c.chLen = 0 then .crc else .payload }
  else { c with decFpos := c.decFpos + 1 }

/-- `PayloadStep(b)` (R611). Its first test is k = 12 with a bad tag (R613). -/
def payloadStep (b : Byte) (c : Ccb) : Ccb :=
  let c := { c with decCrc := crcStep c.decCrc b, decRemain := c.decRemain - 1 }
  if c.decTagBad ∧ c.chLen - c.decRemain = 4 then enterError .invalidChunkType c
  else if c.decRemain = 0 then { c with decPhase := .crc, decFpos := 0 }
  else c

/-- `CrcStep(b)` (R612). Its first test is k = 12 with a bad tag, on naturals (R604, R613); it comes before the
comparison. -/
def crcFieldStep (b : Byte) (c : Ccb) : Ccb :=
  let c := { c with chCrcStored := shiftIn c.chCrcStored b }
  let pos := c.decFpos.toNat + 1
  if c.decTagBad ∧ c.chLen.toNat + pos = 4 then enterError .invalidChunkType c
  else if pos = 4 then
    if c.chCrcStored = chCrcCalc c then
      { c with decPhase := .ready, decFpos := 0, chCount := c.chCount + 1 }
    else enterError .crcMismatch c
  else { c with decFpos := c.decFpos + 1 }

/-- One byte written to DEC_DATA8: dropped outside the accepting phases, else counted and framed (R607). -/
def feedByte (b : Byte) (c : Ccb) : Ccb :=
  let counted := { c with decCount := c.decCount + 1 }
  match c.decPhase with
  | .idle => { c with ovf := true }
  | .sig => sigStep b counted
  | .len => lenStep b c.decCount counted
  | .type => typeStep b counted
  | .payload => payloadStep b counted
  | .crc => crcFieldStep b counted
  | .ready => { c with ovf := true }
  | .done => { c with ovf := true }
  | .error => { c with ovf := true }

/-- WR_DEC_DATA8 (R607). -/
def execWrDecData8 (data : Word) (s : State) : Host.Outcome State Fault Refusal :=
  completeWrite (feedByte (byteOperand data) s.ccb) s

/-! ### Commands -/

/-- CMD_DEC_START_FILE (R614). -/
def execCmdDecStartFile (s : State) : Host.Outcome State Fault Refusal :=
  completeWrite (decInit .sig true s.ccb) s

/-- CMD_DEC_START_STREAM (R615). -/
def execCmdDecStartStream (s : State) : Host.Outcome State Fault Refusal :=
  completeWrite (decInit .len false s.ccb) s

/-- The input ends inside a payload or a CRC field (R616, D14). -/
def endInsideChunk (c : Ccb) : Ccb :=
  if chunkBytes c < 12 then enterError .chunkTooShort c else enterError .truncated c

/-- The input buffer is exhausted, by phase; outside the accepting phases the command is rejected (R616, R700). -/
def endInput (c : Ccb) : Ccb :=
  match c.decPhase with
  | .sig => enterError .badSignature c
  | .len => if c.decFpos = 0 then { c with decPhase := .done } else enterError .chunkTooShort c
  | .type => enterError .chunkTooShort c
  | .payload => endInsideChunk c
  | .crc => endInsideChunk c
  | .idle => rejectCommand c
  | .ready => rejectCommand c
  | .done => rejectCommand c
  | .error => rejectCommand c

/-- CMD_DEC_END (R616). -/
def execCmdDecEnd (s : State) : Host.Outcome State Fault Refusal := completeWrite (endInput s.ccb) s

/-- CMD_DEC_ACK: legal only in READY, elsewhere rejected (R617, R700). -/
def execCmdDecAck (s : State) : Host.Outcome State Fault Refusal :=
  completeWrite
    (if s.ccb.decPhase = .ready then { s.ccb with decPhase := .len, decFpos := 0 } else rejectCommand s.ccb) s

/-- CMD_DEC_ABORT (R618). -/
def execCmdDecAbort (s : State) : Host.Outcome State Fault Refusal :=
  completeWrite (decInit .idle false s.ccb) s

/-! ### Reads -/

/-- RD_DEC_STATE (R619). -/
def execRdDecState (s : State) : Host.Outcome State Fault Refusal := completeRead (decStateWord s.ccb) s

/-- RD_DEC_COUNT (R620). -/
def execRdDecCount (s : State) : Host.Outcome State Fault Refusal := completeRead s.ccb.decCount s

/-- RD_DEC_REMAIN (R621). -/
def execRdDecRemain (s : State) : Host.Outcome State Fault Refusal := completeRead s.ccb.decRemain s

/-- RD_CH_LEN (R622). -/
def execRdChLen (s : State) : Host.Outcome State Fault Refusal := completeRead s.ccb.chLen s

/-- RD_CH_TYPE (R623). -/
def execRdChType (s : State) : Host.Outcome State Fault Refusal := completeRead s.ccb.chType s

/-- RD_CH_FLAGS: `tag_flags(CH_TYPE)` (R624, R121). -/
def execRdChFlags (s : State) : Host.Outcome State Fault Refusal := completeRead (tagFlags s.ccb.chType) s

/-- RD_CH_CRC_STORED (R625). -/
def execRdChCrcStored (s : State) : Host.Outcome State Fault Refusal := completeRead s.ccb.chCrcStored s

/-- RD_CH_CRC_CALC (R626). -/
def execRdChCrcCalc (s : State) : Host.Outcome State Fault Refusal := completeRead (chCrcCalc s.ccb) s

/-- RD_CH_OFFSET (R627). -/
def execRdChOffset (s : State) : Host.Outcome State Fault Refusal := completeRead s.ccb.chOffset s

/-- RD_CH_COUNT (R628). -/
def execRdChCount (s : State) : Host.Outcome State Fault Refusal := completeRead s.ccb.chCount s

end Sys2Proof.Machine
end

