-- ==== Sys2Proof/Machine/NoOperation.lean ====
section
/-! DEFINITION. Accesses that name no operation (43_control.md section 3): writes of read-only registers, reads of
write-only registers, and bus errors. -/

namespace Sys2Proof.Machine

/-- A write of a read-only register: ignored, no flag records it (R709). -/
def ignoreWrite (s : State) : Host.Outcome State Fault Refusal := completeWrite s.ccb s

/-- A read of a write-only register gives 0 (R708). -/
def readWriteOnly (s : State) : Host.Outcome State Fault Refusal := completeRead 0 s

/-- WR_RO_CRC_STATE (R709). -/
def execWrRoCrcState (_data : Word) (s : State) : Host.Outcome State Fault Refusal := ignoreWrite s

/-- WR_RO_CRC_RESULT (R709). -/
def execWrRoCrcResult (_data : Word) (s : State) : Host.Outcome State Fault Refusal := ignoreWrite s

/-- WR_RO_TAG_FLAGS (R709). -/
def execWrRoTagFlags (_data : Word) (s : State) : Host.Outcome State Fault Refusal := ignoreWrite s

/-- WR_RO_DEC_STATE (R709). -/
def execWrRoDecState (_data : Word) (s : State) : Host.Outcome State Fault Refusal := ignoreWrite s

/-- WR_RO_DEC_COUNT (R709). -/
def execWrRoDecCount (_data : Word) (s : State) : Host.Outcome State Fault Refusal := ignoreWrite s

/-- WR_RO_DEC_REMAIN (R709). -/
def execWrRoDecRemain (_data : Word) (s : State) : Host.Outcome State Fault Refusal := ignoreWrite s

/-- WR_RO_CH_LEN (R709). -/
def execWrRoChLen (_data : Word) (s : State) : Host.Outcome State Fault Refusal := ignoreWrite s

/-- WR_RO_CH_TYPE (R709). -/
def execWrRoChType (_data : Word) (s : State) : Host.Outcome State Fault Refusal := ignoreWrite s

/-- WR_RO_CH_FLAGS (R709). -/
def execWrRoChFlags (_data : Word) (s : State) : Host.Outcome State Fault Refusal := ignoreWrite s

/-- WR_RO_CH_CRC_STORED (R709). -/
def execWrRoChCrcStored (_data : Word) (s : State) : Host.Outcome State Fault Refusal := ignoreWrite s

/-- WR_RO_CH_CRC_CALC (R709). -/
def execWrRoChCrcCalc (_data : Word) (s : State) : Host.Outcome State Fault Refusal := ignoreWrite s

/-- WR_RO_CH_OFFSET (R709). -/
def execWrRoChOffset (_data : Word) (s : State) : Host.Outcome State Fault Refusal := ignoreWrite s

/-- WR_RO_CH_COUNT (R709). -/
def execWrRoChCount (_data : Word) (s : State) : Host.Outcome State Fault Refusal := ignoreWrite s

/-- RD_WO_CMD (R708). -/
def execRdWoCmd (s : State) : Host.Outcome State Fault Refusal := readWriteOnly s

/-- RD_WO_CRC_DATA8 (R708). -/
def execRdWoCrcData8 (s : State) : Host.Outcome State Fault Refusal := readWriteOnly s

/-- RD_WO_CRC_DATA32 (R708). -/
def execRdWoCrcData32 (s : State) : Host.Outcome State Fault Refusal := readWriteOnly s

/-- RD_WO_DEC_DATA8 (R708). -/
def execRdWoDecData8 (s : State) : Host.Outcome State Fault Refusal := readWriteOnly s

/-- BUS_ERROR: the access faults, and no state element changes (R710, R9). -/
def execBusError (size : BitVec 2) (w : BitVec 1) (off : BitVec 7) (_data : Word) (_s : State) :
    Host.Outcome State Fault Refusal :=
  raiseBusError w size off

end Sys2Proof.Machine
end

