-- ==== Sys2Proof/Machine/Tagchk.lean ====
section
/-! DEFINITION. The accesses of the type-tag checker (40_type_tag.md section 2). -/

namespace Sys2Proof.Machine

/-- WR_TAG_IN: `TAG_IN <- DATA`, any value accepted (R411, R410). -/
def execWrTagIn (data : Word) (s : State) : Host.Outcome State Fault Refusal :=
  completeWrite { s.ccb with tagIn := data } s

/-- RD_TAG_IN (R412). -/
def execRdTagIn (s : State) : Host.Outcome State Fault Refusal := completeRead s.ccb.tagIn s

/-- RD_TAG_FLAGS: `tag_flags(TAG_IN)` (R413, R120). -/
def execRdTagFlags (s : State) : Host.Outcome State Fault Refusal := completeRead (tagFlags s.ccb.tagIn) s

end Sys2Proof.Machine
end

