-- ==== Sys2Proof/Machine/Dispatch.lean ====
section
/-! DEFINITION. One arm per row of the opcode table, each one call of that row's meaning. -/

namespace Sys2Proof.Machine

def exec (i : Instr) (s : State) : Host.Outcome State Fault Refusal :=
  match i with
  | .cmdNop => Sys2Proof.Machine.execCmdNop s
  | .cmdCrcInit => Sys2Proof.Machine.execCmdCrcInit s
  | .cmdDecStartFile => Sys2Proof.Machine.execCmdDecStartFile s
  | .cmdDecStartStream => Sys2Proof.Machine.execCmdDecStartStream s
  | .cmdDecEnd => Sys2Proof.Machine.execCmdDecEnd s
  | .cmdDecAck => Sys2Proof.Machine.execCmdDecAck s
  | .cmdDecAbort => Sys2Proof.Machine.execCmdDecAbort s
  | .cmdSoftReset => Sys2Proof.Machine.execCmdSoftReset s
  | .cmdIllegal data => Sys2Proof.Machine.execCmdIllegal data s
  | .wrStatus data => Sys2Proof.Machine.execWrStatus data s
  | .wrIrqEn data => Sys2Proof.Machine.execWrIrqEn data s
  | .wrCrcData8 data => Sys2Proof.Machine.execWrCrcData8 data s
  | .wrCrcData32 data => Sys2Proof.Machine.execWrCrcData32 data s
  | .wrTagIn data => Sys2Proof.Machine.execWrTagIn data s
  | .wrDecData8 data => Sys2Proof.Machine.execWrDecData8 data s
  | .wrRoCrcState data => Sys2Proof.Machine.execWrRoCrcState data s
  | .wrRoCrcResult data => Sys2Proof.Machine.execWrRoCrcResult data s
  | .wrRoTagFlags data => Sys2Proof.Machine.execWrRoTagFlags data s
  | .wrRoDecState data => Sys2Proof.Machine.execWrRoDecState data s
  | .wrRoDecCount data => Sys2Proof.Machine.execWrRoDecCount data s
  | .wrRoDecRemain data => Sys2Proof.Machine.execWrRoDecRemain data s
  | .wrRoChLen data => Sys2Proof.Machine.execWrRoChLen data s
  | .wrRoChType data => Sys2Proof.Machine.execWrRoChType data s
  | .wrRoChFlags data => Sys2Proof.Machine.execWrRoChFlags data s
  | .wrRoChCrcStored data => Sys2Proof.Machine.execWrRoChCrcStored data s
  | .wrRoChCrcCalc data => Sys2Proof.Machine.execWrRoChCrcCalc data s
  | .wrRoChOffset data => Sys2Proof.Machine.execWrRoChOffset data s
  | .wrRoChCount data => Sys2Proof.Machine.execWrRoChCount data s
  | .rdStatus => Sys2Proof.Machine.execRdStatus s
  | .rdIrqEn => Sys2Proof.Machine.execRdIrqEn s
  | .rdCrcState => Sys2Proof.Machine.execRdCrcState s
  | .rdCrcResult => Sys2Proof.Machine.execRdCrcResult s
  | .rdTagIn => Sys2Proof.Machine.execRdTagIn s
  | .rdTagFlags => Sys2Proof.Machine.execRdTagFlags s
  | .rdDecState => Sys2Proof.Machine.execRdDecState s
  | .rdDecCount => Sys2Proof.Machine.execRdDecCount s
  | .rdDecRemain => Sys2Proof.Machine.execRdDecRemain s
  | .rdChLen => Sys2Proof.Machine.execRdChLen s
  | .rdChType => Sys2Proof.Machine.execRdChType s
  | .rdChFlags => Sys2Proof.Machine.execRdChFlags s
  | .rdChCrcStored => Sys2Proof.Machine.execRdChCrcStored s
  | .rdChCrcCalc => Sys2Proof.Machine.execRdChCrcCalc s
  | .rdChOffset => Sys2Proof.Machine.execRdChOffset s
  | .rdChCount => Sys2Proof.Machine.execRdChCount s
  | .rdWoCmd => Sys2Proof.Machine.execRdWoCmd s
  | .rdWoCrcData8 => Sys2Proof.Machine.execRdWoCrcData8 s
  | .rdWoCrcData32 => Sys2Proof.Machine.execRdWoCrcData32 s
  | .rdWoDecData8 => Sys2Proof.Machine.execRdWoDecData8 s
  | .busError size w off data => Sys2Proof.Machine.execBusError size w off data s

end Sys2Proof.Machine
end

