-- ==== Sys2Proof/Machine/Step.lean ====
section
/-! DEFINITION. One step: the CCB serves the oldest event at its port (R208). It fetches no instructions of its own
(R100, R210): what it runs is what the host sends (R8). -/

namespace Sys2Proof.Machine

/-- One step. With no event at the port the CCB is passive (R8); a reset puts it in the reset state (R900); an access is
decoded (R306) and performed whole (R206). -/
def step (s : State) : Host.Outcome State Fault Refusal :=
  match s.pending with
  | [] => idleStep s
  | .reset :: rest => .next (hardwareReset (popPending rest s))
  | .access d :: rest => exec (decode d) (popPending rest s)

/-- The host sends the access whose descriptor is the low `nbits` bits of `w`, as the next one to be served (log entry 1). -/
def State.withFetchWord (s : State) (nbits w : Nat) : State :=
  pushAccess (BitVec.ofNat 42 (w % 2 ^ nbits)) s

end Sys2Proof.Machine
end

