-- ==== Sys2Proof/Machine/Bus.lean ====
section
/-! DEFINITION. Address decode at the bus (20_memory.md R201): which bus accesses reach the CCB, and as which descriptor. -/

namespace Sys2Proof.Machine

/-- An access on the platform's bus. The spec gives a bus address no width, so it is a natural number (log entry 5). -/
structure BusAccess where
  size  : BitVec 2
  write : BitVec 1
  addr  : Nat
  data  : Word
deriving DecidableEq, Repr

/-- `CCB_BASE <= a < CCB_BASE + 0x80` (R201). -/
def inWindow (a : Nat) : Bool := decide (Config.ccbBase ≤ a) && decide (a < Config.ccbBase + 0x80)

/-- `off = a - CCB_BASE`, 7 bits (R201). -/
def busOffset (a : Nat) : BitVec 7 := BitVec.ofNat 7 (a - Config.ccbBase)

/-- The descriptor of an access that is routed to the CCB; none for one that is not, which is the platform's business
(R201). A read's DATA field is 0 (R300). -/
def route (x : BusAccess) : Option Descriptor :=
  if inWindow x.addr then
    some (descriptor x.size x.write (busOffset x.addr) (if x.write = 1 then x.data else 0))
  else none

end Sys2Proof.Machine
end

