-- ==== Sys2Proof/Machine/Assembler.lean ====
section
/-! DEFINITION. The notation of host access programs (30_encoding.md R310, R311). -/

namespace Sys2Proof.Machine

/-- The command names of R305, without their prefix (R311). -/
inductive Command where
  | nop | crcInit | decStartFile | decStartStream | decEnd | decAck | decAbort | softReset
deriving DecidableEq, Repr

/-- OPCODE(NAME) (R305). -/
def opcodeOf : Command → Word
  | .nop => 0x00
  | .crcInit => 0x01
  | .decStartFile => 0x10
  | .decStartStream => 0x11
  | .decEnd => 0x12
  | .decAck => 0x13
  | .decAbort => 0x14
  | .softReset => 0xFF

/-- One line of a host access program: the two accesses of R310 and the pseudo-instructions of R311. -/
inductive AsmLine where
  | wr (off : BitVec 7) (value : Word)
  | rd (off : BitVec 7)
  | cmd (name : Command)
  | crc8 (bytes : List Byte)
  | crc32 (w : Word)
  | crcstr (text : List Char)
  | feed (bytes : List Byte)
  | feedstr (text : List Char)
  | feed32 (w : Word)
  | clrflags
deriving DecidableEq, Repr

/-- `wr OFFNAME, VALUE` (R310). -/
def wrLine (off : BitVec 7) (value : Word) : Descriptor := descriptor 0b10 1 off value

/-- `rd OFFNAME` (R310). -/
def rdLine (off : BitVec 7) : Descriptor := descriptor 0b10 0 off 0

/-- The ASCII bytes of a text, in order (R311, G4). DESIGN CHOICE: R311 speaks of ASCII text alone; any other character
stands here for the low 8 bits of its code point (log entry 13). -/
def asciiBytes (text : List Char) : List Byte := text.map fun ch => BitVec.ofNat 8 ch.toNat

/-- The accesses a line stands for, in order (R310, R311). -/
def assemble : AsmLine → List Descriptor
  | .wr off value => [wrLine off value]
  | .rd off => [rdLine off]
  | .cmd name => [wrLine (regOffset .cmd) (opcodeOf name)]
  | .crc8 bytes => bytes.map fun b => wrLine (regOffset .crcData8) (b.setWidth 32)
  | .crc32 w => [wrLine (regOffset .crcData32) w]
  | .crcstr text => (asciiBytes text).map fun b => wrLine (regOffset .crcData8) (b.setWidth 32)
  | .feed bytes => bytes.map fun b => wrLine (regOffset .decData8) (b.setWidth 32)
  | .feedstr text => (asciiBytes text).map fun b => wrLine (regOffset .decData8) (b.setWidth 32)
  | .feed32 w => (wireBytes w).map fun b => wrLine (regOffset .decData8) (b.setWidth 32)
  | .clrflags => [wrLine (regOffset .status) 0x300]

/-- The accesses of `crc8 b0, b1, …` (R311). -/
def crc8 (bytes : List Byte) : List Instr := bytes.map fun b => .wrCrcData8 (b.setWidth 32)

/-- The accesses of `feed b0, b1, …` (R311). -/
def feed (bytes : List Byte) : List Instr := bytes.map fun b => .wrDecData8 (b.setWidth 32)

end Sys2Proof.Machine
end

