-- ==== Sys2Proof/Machine/Run.lean ====
section
/-! DEFINITION. Runs of host accesses (20_memory.md R208, 70_reset_and_hazards.md R914). -/

namespace Sys2Proof.Machine

/-- Accesses performed one after the other, up to the first that does not complete (R208). -/
def execAll : List Instr → State → Host.Outcome State Fault Refusal
  | [], s => .next s
  | i :: is, s =>
    match exec i s with
    | .next t => execAll is t
    | .fault f => .fault f
    | .refused r => .refused r

/-- One host event served to its outcome, a BusError included: that access changes no state element, and its outcome is
recorded (R9, R710, R914; log entry 3). -/
def serve (s : State) : HostEvent → State
  | .reset => hardwareReset s
  | .access d =>
    match exec (decode d) s with
    | .next t => t
    | .fault (.busError w size off) => { s with log := s.log ++ [.busError w size off] }
    | .refused _ => s

/-- A host program's accesses, to the last one, through bus errors and resets (R914, R913). -/
def hostRun (es : List HostEvent) (s : State) : State := es.foldl serve s

/-- The observation of a run (R914): the outcome of each access with the values read, the final 18 elements, the final
`irq`. -/
structure Observation where
  outcomes : List Response
  elements : Ccb
  irqLevel : Bool
deriving DecidableEq, Repr

/-- What a run from the CCB state `c` shows (R914). -/
def observe (es : List HostEvent) (c : Ccb) : Observation :=
  let t := hostRun es { ccb := c, pending := [], log := [] }
  { outcomes := t.log, elements := t.ccb, irqLevel := irq t.ccb }

end Sys2Proof.Machine
end

