-- ==== Sys2Proof/Machine/Reference.lean ====
section
/-! DEFINITION. The source's whole-buffer parse and chunk wire format as the spec quotes them (42_chunk_decoder.md R600,
R608 to R613, R634; 60_exceptions.md R803), and the host procedures of R509 and R634 that are held against them. No
meaning of an instruction uses this file. -/

namespace Sys2Proof.Machine

/-- What is recorded of a chunk: length, type tag, CRC, and the cursor where it begins (R634). The cursor is taken modulo
2^32 (log entry 14). -/
structure ChunkRecord where
  len    : Word
  type   : Word
  crc    : Word
  offset : Word
deriving DecidableEq, Repr

/-- A big-endian number of four bytes (R204, R600). -/
def bigEndian (bytes : List Byte) : Word := bytes.foldl shiftIn 0

/-- A chunk on the wire: length, type tag, payload, CRC over tag and payload, big-endian (R509, R600). DESIGN CHOICE: a
payload of 2^32 bytes or more, for which the spec gives no length field, has its length taken modulo 2^32 (log entry 15). -/
def chunkWire (tag : Word) (payload : List Byte) : List Byte :=
  wireBytes (BitVec.ofNat 32 payload.length) ++ wireBytes tag ++ payload ++ wireBytes (crc32 (wireBytes tag ++ payload))

/-- The source's parse of one chunk at the head of a slice, its failures in the source's order (R613, R803): the slice
length, the tag, the payload length, then the CRC. A slice that holds the payload but not all four CRC bytes is
truncated (D14). -/
def parseChunk (offset : Word) (slice : List Byte) : Except DecErr ChunkRecord :=
  let len := bigEndian (slice.take 4)
  let tag := (slice.drop 4).take 4
  let rest := slice.drop 8
  let payload := rest.take len.toNat
  let stored := (rest.drop len.toNat).take 4
  if slice.length < 12 then .error .chunkTooShort
  else if !tag.all isAlpha then .error .invalidChunkType
  else if rest.length < len.toNat + 4 then .error .truncated
  else if bigEndian stored ≠ crc32 (tag ++ payload) then .error .crcMismatch
  else .ok { len := len, type := bigEndian tag, crc := bigEndian stored, offset := offset }

/-- The source's chunk loop, "until the buffer is exhausted": the chunks parsed, and the failure that ended it, if any.
The number bounds how many chunks may come; the slice's length is always enough. DESIGN CHOICE: the source's cursor is
unbounded, and `offset` is that cursor modulo 2^32, as CH_OFFSET wraps (D23, log entry 14). -/
def parseChunks : Nat → Word → List Byte → List ChunkRecord × Option DecErr
  | _, _, [] => ([], none)
  | 0, _, _ :: _ => ([], none)
  | n + 1, offset, slice =>
    match parseChunk offset slice with
    | .error e => ([], some e)
    | .ok r =>
      let tail := parseChunks n (offset + 12 + r.len) (slice.drop (12 + r.len.toNat))
      (r :: tail.1, tail.2)

/-- A chunk sequence with no signature (R615, R634). -/
def parseStream (buffer : List Byte) : List ChunkRecord × Option DecErr := parseChunks buffer.length 0 buffer

/-- A file: the signature, then chunks (R600, R634). -/
def parseFile (buffer : List Byte) : List ChunkRecord × Option DecErr :=
  if buffer.take 8 ≠ Config.pngSig.toList then ([], some .badSignature)
  else parseChunks buffer.length 8 (buffer.drop 8)

/-- The bytes an access feeds to CRCGEN (R506, R507). -/
def crcBytesOf (i : Instr) : List Byte :=
  match i with
  | .wrCrcData8 data => [byteOperand data]
  | .wrCrcData32 data => wireBytes data
  | .cmdNop | .cmdCrcInit | .cmdDecStartFile | .cmdDecStartStream | .cmdDecEnd | .cmdDecAck | .cmdDecAbort
   | .cmdSoftReset | .cmdIllegal _ | .wrStatus _ | .wrIrqEn _ | .wrTagIn _ | .wrDecData8 _ | .wrRoCrcState _
   | .wrRoCrcResult _ | .wrRoTagFlags _ | .wrRoDecState _ | .wrRoDecCount _ | .wrRoDecRemain _ | .wrRoChLen _
   | .wrRoChType _ | .wrRoChFlags _ | .wrRoChCrcStored _ | .wrRoChCrcCalc _ | .wrRoChOffset _ | .wrRoChCount _
   | .rdStatus | .rdIrqEn | .rdCrcState | .rdCrcResult | .rdTagIn | .rdTagFlags | .rdDecState | .rdDecCount
   | .rdDecRemain | .rdChLen | .rdChType | .rdChFlags | .rdChCrcStored | .rdChCrcCalc | .rdChOffset | .rdChCount
   | .rdWoCmd | .rdWoCrcData8 | .rdWoCrcData32 | .rdWoDecData8 | .busError _ _ _ _ => []

/-- One bit entering a reflected CRC register: the bit and bit 0 of the register decide whether the constant is xored in
after the shift (R501: "The byte enters least significant bit first"). -/
def crcBit (c : Word) (bit : Bool) : Word :=
  if (c.getLsbD 0 ^^ bit) then (c >>> 1) ^^^ 0xEDB88320 else c >>> 1

/-- The accesses of R509: the CRC of a chunk that is being built. -/
def buildPath (tag : Word) (payload : List Byte) : List Instr :=
  .cmdCrcInit :: .wrCrcData32 tag :: (crc8 payload ++ [.rdCrcResult])

/-- The host sends one access (R8). -/
def send (s : State) (i : Instr) : State := serve s (.access (encode i))

/-- What the host records of a chunk in READY (R634): the values its reads give, which change nothing (R207). -/
def recordOf (c : Ccb) : ChunkRecord :=
  { len := c.chLen, type := c.chType, crc := c.chCrcStored, offset := c.chOffset }

/-- One round of the loop of R634: feed a byte, and if STATUS.CHUNK_RDY = 1 record the chunk and acknowledge it. -/
def feedRound (r : State × List ChunkRecord) (b : Byte) : State × List ChunkRecord :=
  let s := send r.1 (.wrDecData8 (b.setWidth 32))
  if (statusWord s.ccb).getLsbD 0 then (send s .cmdDecAck, r.2 ++ [recordOf s.ccb]) else (s, r.2)

/-- The host procedure of R634: start, feed every byte, and end the input if STATUS.ERR = 0. -/
def hostParse (start : Instr) (buffer : List Byte) (s : State) : State × List ChunkRecord :=
  let r := buffer.foldl feedRound (send s start, [])
  if (statusWord r.1.ccb).getLsbD 2 then r else (send r.1 .cmdDecEnd, r.2)

end Sys2Proof.Machine
end

