-- ==== Sys2Proof/Safety.lean ====
section
/-! DEFINITION. What claims are stated in: the reachable-state invariants (R636), the launch premises (R915), and classes
of instructions the prose speaks of. -/

namespace Sys2Proof.Machine

/-! ### Reachable-state invariants (R636). Item (i) and the SIG half of (iii) hold by the types of the fields. -/

/-- R636 (ii): DEC_ERR != 0 iff DEC_PHASE = ERROR. -/
abbrev Ccb.errMatchesPhase (c : Ccb) : Prop := c.decErr ≠ .noError ↔ c.decPhase = .error

/-- R636 (iii): DEC_FPOS <= 3 in LEN, TYPE and CRC, and 0 in IDLE, PAYLOAD, READY, DONE and ERROR. -/
abbrev Ccb.fposInField (c : Ccb) : Prop :=
  (c.decPhase = .len ∨ c.decPhase = .type ∨ c.decPhase = .crc → c.decFpos ≤ 3) ∧
  (c.decPhase = .idle ∨ c.decPhase = .payload ∨ c.decPhase = .ready ∨ c.decPhase = .done ∨ c.decPhase = .error →
    c.decFpos = 0)

/-- R636 (iv) and (v): in PAYLOAD 1 <= DEC_REMAIN <= CH_LEN; in CRC DEC_REMAIN = 0. -/
abbrev Ccb.remainInRange (c : Ccb) : Prop :=
  (c.decPhase = .payload → 1 ≤ c.decRemain ∧ c.decRemain ≤ c.chLen) ∧ (c.decPhase = .crc → c.decRemain = 0)

/-- R636 (vi), with k of R604 written out: a bad tag is pending only in TYPE, PAYLOAD and CRC while k < 12, or was pending
when ERROR was entered. -/
abbrev Ccb.tagBadPending (c : Ccb) : Prop :=
  c.decTagBad = true →
    (c.decPhase = .type ∧ 4 + c.decFpos.toNat < 12) ∨
    (c.decPhase = .payload ∧ 8 + (c.chLen.toNat - c.decRemain.toNat) < 12) ∨
    (c.decPhase = .crc ∧ 8 + c.chLen.toNat + c.decFpos.toNat < 12) ∨
    c.decPhase = .error

/-- R636 (vii): in READY, CH_CRC_STORED = CH_CRC_CALC and DEC_TAG_BAD = 0. -/
abbrev Ccb.readyVerified (c : Ccb) : Prop :=
  c.decPhase = .ready → c.chCrcStored = c.decCrc ^^^ 0xFFFFFFFF ∧ c.decTagBad = false

/-- R636 (viii): DEC_MODE = 0 whenever DEC_PHASE = IDLE. -/
abbrev Ccb.idleModeClear (c : Ccb) : Prop := c.decPhase = .idle → c.decMode = false

/-- All items of R636. -/
abbrev Ccb.reachableInv (c : Ccb) : Prop :=
  c.errMatchesPhase ∧ c.fposInField ∧ c.remainInRange ∧ c.tagBadPending ∧ c.readyVerified ∧ c.idleModeClear

/-- R103, R126: every bit of IRQ_EN but 0, 1, 2, 8 and 9 is hardwired to 0. -/
abbrev Ccb.irqEnHardwired (c : Ccb) : Prop := c.irqEn &&& 0xFFFFFCF8 = 0

/-- R107, R602: the signature is expected only in file mode. -/
abbrev Ccb.sigInFileMode (c : Ccb) : Prop := c.decPhase = .sig → c.decMode = true

/-! ### Launch premises (R915) -/

/-- `reset_state`. -/
abbrev Ccb.resetState (c : Ccb) : Prop := c = Ccb.reset

/-- `clean_flags`. -/
abbrev Ccb.cleanFlags (c : Ccb) : Prop := c.cmdErr = false ∧ c.ovf = false

/-- `decoder_idle`. -/
abbrev Ccb.decoderIdle (c : Ccb) : Prop := c.decPhase = .idle

/-- `no_bus_error`: no access of the program matches R710. -/
abbrev noBusError (es : List HostEvent) : Prop :=
  ∀ d : Descriptor, HostEvent.access d ∈ es → namesNoRegister (sizeField d) (offField d) = false

/-- A safe run of a host program from the CCB state `c`: `no_bus_error` at its start, and at its end `clean_flags`, that
is no byte was dropped and no command ignored (R914, R910). -/
abbrev safeRun (es : List HostEvent) (c : Ccb) : Prop :=
  noBusError es ∧ c.cleanFlags ∧ (observe es c).elements.cleanFlags

/-! ### Classes of instructions -/

/-- The reads: the rows RD_… and RD_WO_…. -/
def isRead (i : Instr) : Bool :=
  match i with
  | .rdStatus | .rdIrqEn | .rdCrcState | .rdCrcResult | .rdTagIn | .rdTagFlags | .rdDecState | .rdDecCount
   | .rdDecRemain | .rdChLen | .rdChType | .rdChFlags | .rdChCrcStored | .rdChCrcCalc | .rdChOffset | .rdChCount
   | .rdWoCmd | .rdWoCrcData8 | .rdWoCrcData32 | .rdWoDecData8 => true
  | .cmdNop | .cmdCrcInit | .cmdDecStartFile | .cmdDecStartStream | .cmdDecEnd | .cmdDecAck | .cmdDecAbort
   | .cmdSoftReset | .cmdIllegal _ | .wrStatus _ | .wrIrqEn _ | .wrCrcData8 _ | .wrCrcData32 _ | .wrTagIn _
   | .wrDecData8 _ | .wrRoCrcState _ | .wrRoCrcResult _ | .wrRoTagFlags _ | .wrRoDecState _ | .wrRoDecCount _
   | .wrRoDecRemain _ | .wrRoChLen _ | .wrRoChType _ | .wrRoChFlags _ | .wrRoChCrcStored _ | .wrRoChCrcCalc _
   | .wrRoChOffset _ | .wrRoChCount _ | .busError _ _ _ _ => false

/-- The accesses of CRCGEN that write (R101): CRC_INIT and the two feeds. -/
def feedsCrcgen (i : Instr) : Bool :=
  match i with
  | .cmdCrcInit | .wrCrcData8 _ | .wrCrcData32 _ => true
  | .cmdNop | .cmdDecStartFile | .cmdDecStartStream | .cmdDecEnd | .cmdDecAck | .cmdDecAbort | .cmdSoftReset
   | .cmdIllegal _ | .wrStatus _ | .wrIrqEn _ | .wrTagIn _ | .wrDecData8 _ | .wrRoCrcState _ | .wrRoCrcResult _
   | .wrRoTagFlags _ | .wrRoDecState _ | .wrRoDecCount _ | .wrRoDecRemain _ | .wrRoChLen _ | .wrRoChType _
   | .wrRoChFlags _ | .wrRoChCrcStored _ | .wrRoChCrcCalc _ | .wrRoChOffset _ | .wrRoChCount _ | .rdStatus
   | .rdIrqEn | .rdCrcState | .rdCrcResult | .rdTagIn | .rdTagFlags | .rdDecState | .rdDecCount | .rdDecRemain
   | .rdChLen | .rdChType | .rdChFlags | .rdChCrcStored | .rdChCrcCalc | .rdChOffset | .rdChCount | .rdWoCmd
   | .rdWoCrcData8 | .rdWoCrcData32 | .rdWoDecData8 | .busError _ _ _ _ => false

/-- The accesses that write decoder elements (R106 to R118): the byte input and the decoder commands. -/
def drivesDecoder (i : Instr) : Bool :=
  match i with
  | .cmdDecStartFile | .cmdDecStartStream | .cmdDecEnd | .cmdDecAck | .cmdDecAbort | .wrDecData8 _ => true
  | .cmdNop | .cmdCrcInit | .cmdSoftReset | .cmdIllegal _ | .wrStatus _ | .wrIrqEn _ | .wrCrcData8 _
   | .wrCrcData32 _ | .wrTagIn _ | .wrRoCrcState _ | .wrRoCrcResult _ | .wrRoTagFlags _ | .wrRoDecState _
   | .wrRoDecCount _ | .wrRoDecRemain _ | .wrRoChLen _ | .wrRoChType _ | .wrRoChFlags _ | .wrRoChCrcStored _
   | .wrRoChCrcCalc _ | .wrRoChOffset _ | .wrRoChCount _ | .rdStatus | .rdIrqEn | .rdCrcState | .rdCrcResult
   | .rdTagIn | .rdTagFlags | .rdDecState | .rdDecCount | .rdDecRemain | .rdChLen | .rdChType | .rdChFlags
   | .rdChCrcStored | .rdChCrcCalc | .rdChOffset | .rdChCount | .rdWoCmd | .rdWoCrcData8 | .rdWoCrcData32
   | .rdWoDecData8 | .busError _ _ _ _ => false

/-- The decoder's elements are the same in two CCB states (R106 to R118). -/
abbrev Ccb.sameDecoder (c d : Ccb) : Prop :=
  c.decPhase = d.decPhase ∧ c.decMode = d.decMode ∧ c.decFpos = d.decFpos ∧ c.decTagBad = d.decTagBad ∧
  c.decErr = d.decErr ∧ c.decCount = d.decCount ∧ c.decRemain = d.decRemain ∧ c.decCrc = d.decCrc ∧
  c.chLen = d.chLen ∧ c.chType = d.chType ∧ c.chCrcStored = d.chCrcStored ∧ c.chOffset = d.chOffset ∧
  c.chCount = d.chCount

end Sys2Proof.Machine
end

