-- ==== Sys2Proof/Certificates/Slice0/Obligations.lean ====
section
/-! DEFINITION. The statements for the provers. `t.ccb` of a next state is the 18 elements of R101 to R118, so an equation
for it says the new values and that every other element is unchanged. The read value of a read is what the model appends
to `log` (log entry 2). -/

open Sys2Proof Sys2Proof.Machine

/-! ### Encoding -/

/-- R300, R305, R124: decoding the descriptor of a well-formed instruction gives that instruction back, every operand
included. -/
def Obligations.DecodeOfEncodeIsIdentity : Prop :=
  ∀ i : Instr, i.wellFormed = true → decode (encode i) = i

/-- R306, R303: every descriptor decodes to a well-formed instruction, and encoding that gives the descriptor back, but
for the ignored DATA field of a completing read, which is encoded as 0. -/
def Obligations.EncodeOfDecodeIsIdentity : Prop :=
  ∀ d : Descriptor, (decode d).wellFormed = true ∧
    (isRead (decode d) = false → encode (decode d) = d) ∧
    (isRead (decode d) = true → encode (decode d) = descriptor (sizeField d) (writeField d) (offField d) 0)

/-- R306: a row of the opcode table that is no fallback row fits a descriptor exactly when decode selects it; the two
fallback rows are selected exactly in the cases of its steps 1 and 3; one row is always selected. -/
def Obligations.DecodeSelectsTheOneTableRow : Prop :=
  ∀ d : Descriptor,
    (∃ r ∈ opcodeTable, r.mnemonic = (decode d).mnemonic) ∧
    (∀ r ∈ opcodeTable, r.fallback = false → (r.fits d = true ↔ (decode d).mnemonic = r.mnemonic)) ∧
    ((decode d).mnemonic = "BUS_ERROR" ↔
      sizeField d ≠ 0b10 ∨ (offField d).extractLsb' 0 2 ≠ 0 ∨ 0x50 ≤ offField d) ∧
    ((decode d).mnemonic = "CMD_ILLEGAL" ↔
      sizeField d = 0b10 ∧ writeField d = 1 ∧ offField d = 0x00 ∧
        ((dataField d).extractLsb' 8 24 ≠ 0 ∨
          (dataField d).extractLsb' 0 8 ∉ ([0x00, 0x01, 0x10, 0x11, 0x12, 0x13, 0x14, 0xFF] : List Byte)))

/-- The descriptor examples of 95_test_vectors.md section 2.4 and of P1 to P4, one or more for each unit. -/
def Obligations.SampleDescriptorsDecodeRight : Prop :=
  decode 0x28000000010 = .cmdDecStartFile ∧ decode 0x280000000FF = .cmdSoftReset ∧
  decode 0x20400000000 = .rdStatus ∧ decode 0x28800000307 = .wrIrqEn 0x307 ∧
  decode 0x29052755374 = .wrCrcData32 0x52755374 ∧ decode 0x28C00000039 = .wrCrcData8 0x39 ∧
  decode 0x29C52757374 = .wrTagIn 0x52757374 ∧ decode 0x22000000000 = .rdTagFlags ∧
  decode 0x2A400000089 = .wrDecData8 0x89 ∧ decode 0x24400000000 = .rdChCrcCalc ∧
  decode 0x28400000300 = .wrStatus 0x300 ∧ decode 0x2800000FF01 = .cmdIllegal 0xFF01 ∧
  decode 0x25000000000 = .busError 0b10 0 0x50 0 ∧ decode 0x0A400000089 = .busError 0b00 1 0x24 0x89

/-- R310, R311: each line of a host program stands for the accesses the rule gives, and an ASCII text for its ASCII codes.
What bytes a text with another character stands for is the model's choice (log entry 13). -/
def Obligations.AssemblerLinesExpandAsListed : Prop :=
  (∀ off v, (assemble (.wr off v)) = [descriptor 0b10 1 off v]) ∧
  (∀ off, (assemble (.rd off)) = [descriptor 0b10 0 off 0]) ∧
  ([Command.nop, .crcInit, .decStartFile, .decStartStream, .decEnd, .decAck, .decAbort, .softReset].flatMap
      (fun n => (assemble (.cmd n)).map decode) =
    [.cmdNop, .cmdCrcInit, .cmdDecStartFile, .cmdDecStartStream, .cmdDecEnd, .cmdDecAck, .cmdDecAbort, .cmdSoftReset]) ∧
  (∀ bs, (assemble (.crc8 bs)).map decode = crc8 bs) ∧
  (∀ w, (assemble (.crc32 w)).map decode = [.wrCrcData32 w]) ∧
  (∀ bs, (assemble (.feed bs)).map decode = feed bs) ∧
  (∀ w, (assemble (.feed32 w)).map decode =
    feed [w.extractLsb' 24 8, w.extractLsb' 16 8, w.extractLsb' 8 8, w.extractLsb' 0 8]) ∧
  (∀ text, assemble (.crcstr text) = assemble (.crc8 (asciiBytes text)) ∧
    assemble (.feedstr text) = assemble (.feed (asciiBytes text))) ∧
  (∀ text : List Char, (∀ ch ∈ text, ch.toNat < 0x80) → (asciiBytes text).map (·.toNat) = text.map (·.toNat)) ∧
  (assemble .clrflags).map decode = [.wrStatus 0x300]

/-- R201, R7: exactly the accesses in the 0x80 bytes from CCB_BASE reach the CCB, at offset a - CCB_BASE, whatever the
128-byte-aligned CCB_BASE is. -/
def Obligations.BusRoutesExactlyTheWindow : Prop :=
  Config.ccbBase % 128 = 0 ∧
  ∀ x : BusAccess,
    ((route x).isSome = true ↔ Config.ccbBase ≤ x.addr ∧ x.addr < Config.ccbBase + 0x80) ∧
    ∀ d, route x = some d →
      (offField d).toNat = x.addr - Config.ccbBase ∧ sizeField d = x.size ∧ writeField d = x.write ∧
      (x.write = 1 → dataField d = x.data)

/-! ### Steps and reset -/

/-- R208, R306: a step serves the oldest access at the port by performing what it decodes to, and nothing else (the port,
`pending`, is the model's choice: log entry 1). R8: with no event nothing changes. R900: a hardware reset puts every element
at its reset value; that it is one event at the port, and that the other pending events and `log` are kept across it, is the
model's choice (log entries 9 and 2). -/
def Obligations.StepServesTheOldestEvent : Prop :=
  (∀ (s : State) (d : Descriptor) (rest : List HostEvent) (i : Instr),
    s.pending = .access d :: rest → decode d = i → step s = exec i { s with pending := rest }) ∧
  (∀ s : State, s.pending = [] → step s = .next s) ∧
  (∀ (s : State) (rest : List HostEvent), s.pending = .reset :: rest →
    step s = .next { s with ccb := Ccb.reset, pending := rest })

/-- R208: served from the port one after the other, accesses have the effect of their instructions performed in that
order. -/
def Obligations.AccessesComposeInOrder : Prop :=
  ∀ (is : List Instr) (rest : List HostEvent) (s : State), (∀ i ∈ is, i.wellFormed = true) →
    Sys2Proof.core.run is.length { s with pending := is.map (fun i => HostEvent.access (encode i)) ++ rest } =
      execAll is { s with pending := rest }

/-- An access has one outcome (R914) and is performed whole (R206). That it is appended to `log`, and that the port's other
events are left alone, is the model's choice (log entries 1 and 2). -/
def Obligations.EachAccessRecordsOneOutcome : Prop :=
  ∀ (i : Instr) (s t : State), exec i s = .next t →
    t.pending = s.pending ∧
    (isRead i = true → ∃ v, t.log = s.log ++ [.value v]) ∧ (isRead i = false → t.log = s.log ++ [.written])

/-- R900, R902 and the reset table of 10_state.md section 5. -/
def Obligations.ResetStateHoldsTheSpecValues : Prop :=
  let c := State.reset.ccb
  c.crcState = 0xFFFFFFFF ∧ c.decCrc = 0xFFFFFFFF ∧ c.decPhase = .idle ∧
  c.tagIn = 0 ∧ c.irqEn = 0 ∧ c.cmdErr = false ∧ c.ovf = false ∧ c.decMode = false ∧ c.decFpos = 0 ∧
  c.decTagBad = false ∧ c.decErr = .noError ∧ c.decCount = 0 ∧ c.decRemain = 0 ∧ c.chLen = 0 ∧ c.chType = 0 ∧
  c.chCrcStored = 0 ∧ c.chOffset = 0 ∧ c.chCount = 0 ∧
  crcResult c = 0 ∧ tagFlags c.tagIn = 0x0E ∧ tagFlags c.chType = 0x0E ∧ chCrcCalc c = 0 ∧ statusWord c = 0 ∧
  decStateWord c = 0 ∧ irq c = false

/-! ### Control unit -/

/-- R701. -/
def Obligations.NopChangesNothing : Prop :=
  decode (descriptor 0b10 1 0x00 0x00000000) = .cmdNop ∧
  decode (descriptor 0b10 1 0x00 0x00000100) = .cmdIllegal 0x00000100 ∧
  ∀ s : State, ∃ t, exec .cmdNop s = .next t ∧ t.ccb = s.ccb

/-- R702, R901: CMD_SOFT_RESET gives every element its reset value, exactly as a hardware reset does, and lowers irq. -/
def Obligations.SoftResetIsHardwareReset : Prop :=
  decode (descriptor 0b10 1 0x00 0x000000FF) = .cmdSoftReset ∧
  ∀ s : State, ∃ t, exec .cmdSoftReset s = .next t ∧ t.ccb = Ccb.reset ∧ irq t.ccb = false ∧
    t.ccb = (hardwareReset s).ccb

/-- R703: a command word that names no command sets CMD_ERR and changes nothing else. -/
def Obligations.IllegalCommandSetsOnlyCmdErr : Prop :=
  ∀ (data : Word),
    data.extractLsb' 8 24 ≠ 0 ∨
      data.extractLsb' 0 8 ∉ ([0x00, 0x01, 0x10, 0x11, 0x12, 0x13, 0x14, 0xFF] : List Byte) →
    decode (descriptor 0b10 1 0x00 data) = .cmdIllegal data ∧
    ∀ s : State, ∃ t, exec (.cmdIllegal data) s = .next t ∧ t.ccb = { s.ccb with cmdErr := true }

/-- R700: the order in which a write of CMD is examined, and what each outcome performs. -/
def Obligations.CommandDispatchOrder : Prop :=
  ∀ (data : Word) (s : State),
    let op := data.extractLsb' 0 8
    let i := decode (descriptor 0b10 1 0x00 data)
    let rejected := ∃ t, exec i s = .next t ∧ t.ccb = { s.ccb with cmdErr := true }
    if data.extractLsb' 8 24 ≠ 0 ∨ op ∉ ([0x00, 0x01, 0x10, 0x11, 0x12, 0x13, 0x14, 0xFF] : List Byte) then
      i = .cmdIllegal data ∧ rejected
    else if op = 0x12 ∧ s.ccb.decPhase ∉ [Phase.sig, .len, .type, .payload, .crc] then i = .cmdDecEnd ∧ rejected
    else if op = 0x13 ∧ s.ccb.decPhase ≠ .ready then i = .cmdDecAck ∧ rejected
    else
      (op = 0x00 → i = .cmdNop) ∧ (op = 0x01 → i = .cmdCrcInit) ∧ (op = 0x10 → i = .cmdDecStartFile) ∧
      (op = 0x11 → i = .cmdDecStartStream) ∧ (op = 0x12 → i = .cmdDecEnd) ∧ (op = 0x13 → i = .cmdDecAck) ∧
      (op = 0x14 → i = .cmdDecAbort) ∧ (op = 0xFF → i = .cmdSoftReset) ∧
      ∃ t, exec i s = .next t ∧ (i ≠ .cmdSoftReset → t.ccb.cmdErr = s.ccb.cmdErr)

/-- R704, R125, R801: the read value of STATUS, bit by bit, with the numbers of the error codes. -/
def Obligations.StatusReadsByLayout : Prop :=
  ∀ (data : Word) (s : State), decode (descriptor 0b10 0 0x04 data) = .rdStatus ∧
    ∃ v t, exec .rdStatus s = .next t ∧ t.ccb = s.ccb ∧ t.log = s.log ++ [.value v] ∧
      (v.getLsbD 0 = true ↔ s.ccb.decPhase = .ready) ∧ (v.getLsbD 1 = true ↔ s.ccb.decPhase = .done) ∧
      (v.getLsbD 2 = true ↔ s.ccb.decPhase = .error) ∧ v.getLsbD 3 = false ∧
      (s.ccb.decErr = .noError → v.extractLsb' 4 4 = 0) ∧ (s.ccb.decErr = .badSignature → v.extractLsb' 4 4 = 1) ∧
      (s.ccb.decErr = .chunkTooShort → v.extractLsb' 4 4 = 2) ∧
      (s.ccb.decErr = .invalidChunkType → v.extractLsb' 4 4 = 3) ∧ (s.ccb.decErr = .truncated → v.extractLsb' 4 4 = 4) ∧
      (s.ccb.decErr = .crcMismatch → v.extractLsb' 4 4 = 5) ∧ v.getLsbD 8 = s.ccb.cmdErr ∧ v.getLsbD 9 = s.ccb.ovf ∧
      ∀ n, 10 ≤ n → v.getLsbD n = false

/-- R705: W1C of CMD_ERR by DATA[8] and of OVF by DATA[9]; every other DATA bit is ignored. -/
def Obligations.StatusWriteClearsStrobedFlags : Prop :=
  ∀ (data : Word) (s : State), decode (descriptor 0b10 1 0x04 data) = .wrStatus data ∧
    ∃ t, exec (.wrStatus data) s = .next t ∧
      t.ccb = { s.ccb with
        cmdErr := s.ccb.cmdErr && !data.getLsbD 8
        ovf := s.ccb.ovf && !data.getLsbD 9 }

/-- R706, R707: a write of IRQ_EN stores DATA and 0x307, a read gives IRQ_EN; so a write and a read give the written
value's implemented bits. -/
def Obligations.IrqEnStoresAndReadsImplementedBits : Prop :=
  (∀ (data : Word) (s : State), decode (descriptor 0b10 1 0x08 data) = .wrIrqEn data ∧
    ∃ t, exec (.wrIrqEn data) s = .next t ∧ t.ccb = { s.ccb with irqEn := data &&& 0x00000307 }) ∧
  (∀ (data : Word) (s : State), decode (descriptor 0b10 0 0x08 data) = .rdIrqEn ∧
    ∃ t, exec .rdIrqEn s = .next t ∧ t.ccb = s.ccb ∧ t.log = s.log ++ [.value s.ccb.irqEn]) ∧
  (∀ (data : Word) (s : State), ∃ t, execAll [.wrIrqEn data, .rdIrqEn] s = .next t ∧
    t.log = s.log ++ [.written, .value (data &&& 0x00000307)])

/-- R123, R807, R808: irq is 1 exactly while one of the five sources is pending with its enable set. -/
def Obligations.IrqIsTheOrOfEnabledSources : Prop :=
  ∀ c : Ccb, irq c = true ↔
    (c.decPhase = .ready ∧ c.irqEn.getLsbD 0 = true) ∨ (c.decPhase = .done ∧ c.irqEn.getLsbD 1 = true) ∨
    (c.decPhase = .error ∧ c.irqEn.getLsbD 2 = true) ∨ (c.cmdErr = true ∧ c.irqEn.getLsbD 8 = true) ∨
    (c.ovf = true ∧ c.irqEn.getLsbD 9 = true)

/-- R708: a read of a write-only register gives 0 and changes no element. -/
def Obligations.WriteOnlyRegistersReadZero : Prop :=
  ∀ (data : Word) (s : State),
    ∀ p ∈ [((0x00 : BitVec 7), Instr.rdWoCmd), (0x0C, .rdWoCrcData8), (0x10, .rdWoCrcData32), (0x24, .rdWoDecData8)],
      decode (descriptor 0b10 0 p.1 data) = p.2 ∧
      ∃ t, exec p.2 s = .next t ∧ t.ccb = s.ccb ∧ t.log = s.log ++ [.value 0x00000000]

/-- R709: a write of a read-only register is ignored; no element changes. -/
def Obligations.ReadOnlyRegistersIgnoreWrites : Prop :=
  ∀ (data : Word) (s : State),
    ∀ p ∈ [((0x14 : BitVec 7), Instr.wrRoCrcState data), (0x18, .wrRoCrcResult data), (0x20, .wrRoTagFlags data),
        (0x28, .wrRoDecState data), (0x2C, .wrRoDecCount data), (0x30, .wrRoDecRemain data), (0x34, .wrRoChLen data),
        (0x38, .wrRoChType data), (0x3C, .wrRoChFlags data), (0x40, .wrRoChCrcStored data),
        (0x44, .wrRoChCrcCalc data), (0x48, .wrRoChOffset data), (0x4C, .wrRoChCount data)],
      decode (descriptor 0b10 1 p.1 data) = p.2 ∧ ∃ t, exec p.2 s = .next t ∧ t.ccb = s.ccb

/-- R710, R9, R800: an access of another size, at a misaligned or at a reserved offset faults with BusError({W, SIZE,
OFF}), and a run that goes on after it finds every element as before; every other access completes. -/
def Obligations.AccessFaultsExactlyWhenItNamesNoRegister : Prop :=
  ∀ (size : BitVec 2) (w : BitVec 1) (off : BitVec 7) (data : Word) (s : State),
    let bad := size ≠ 0b10 ∨ off.extractLsb' 0 2 ≠ 0 ∨ 0x50 ≤ off
    (bad →
      decode (descriptor size w off data) = .busError size w off data ∧
      exec (.busError size w off data) s = .fault (.busError w size off) ∧
      (serve s (.access (descriptor size w off data))).ccb = s.ccb) ∧
    (¬bad → ∃ t, exec (decode (descriptor size w off data)) s = .next t)

/-! ### Type-tag checker -/

/-- R411. -/
def Obligations.TagInWriteStoresTheWord : Prop :=
  ∀ (data : Word) (s : State), decode (descriptor 0b10 1 0x1C data) = .wrTagIn data ∧
    ∃ t, exec (.wrTagIn data) s = .next t ∧ t.ccb = { s.ccb with tagIn := data }

/-- R412, R413, R624: the reads of TAG_IN, TAG_FLAGS and CH_FLAGS. -/
def Obligations.TagReadsGiveTagAndFlags : Prop :=
  ∀ (data : Word) (s : State),
    ∀ p ∈ [((0x1C : BitVec 7), Instr.rdTagIn, s.ccb.tagIn), (0x20, .rdTagFlags, tagFlags s.ccb.tagIn),
        (0x3C, .rdChFlags, tagFlags s.ccb.chType)],
      decode (descriptor 0b10 0 p.1 data) = p.2.1 ∧
      ∃ t, exec p.2.1 s = .next t ∧ t.ccb = s.ccb ∧ t.log = s.log ++ [.value p.2.2]

/-- R402 to R409, with the bytes and bit places of R400 and R401: every bit of tag_flags, for every word. -/
def Obligations.TagFlagsBitByBit : Prop :=
  ∀ t : Word,
    let letter (b : Byte) : Prop := (0x41 ≤ b.toNat ∧ b.toNat ≤ 0x5A) ∨ (0x61 ≤ b.toNat ∧ b.toNat ≤ 0x7A)
    let f := tagFlags t
    (f.getLsbD 0 = true ↔ letter (t.extractLsb' 24 8) ∧ letter (t.extractLsb' 16 8) ∧ letter (t.extractLsb' 8 8) ∧
      letter (t.extractLsb' 0 8)) ∧
    (f.getLsbD 1 = true ↔ t.getLsbD 29 = false) ∧ (f.getLsbD 2 = true ↔ t.getLsbD 21 = false) ∧
    (f.getLsbD 3 = true ↔ t.getLsbD 13 = false) ∧ (f.getLsbD 4 = true ↔ t.getLsbD 5 = true) ∧
    (f.getLsbD 5 = true ↔ f.getLsbD 0 = true ∧ f.getLsbD 3 = true) ∧
    ∀ n, 6 ≤ n → f.getLsbD n = false

/-- R204, R414: the wire bytes of a word give the word back big-endian, so tags are byte-wise equal exactly when their
words are. -/
def Obligations.WireBytesDetermineTheWord : Prop :=
  (∀ w : Word, bigEndian (wireBytes w) = w) ∧ (∀ t u : Word, wireBytes t = wireBytes u ↔ t = u)

/-! ### CRC-32 generator -/

/-- R508. -/
def Obligations.CrcInitSetsTheInitialValue : Prop :=
  decode (descriptor 0b10 1 0x00 0x00000001) = .cmdCrcInit ∧
  ∀ s : State, ∃ t, exec .cmdCrcInit s = .next t ∧ t.ccb = { s.ccb with crcState := 0xFFFFFFFF }

/-- R506: only DATA[7:0] is fed. -/
def Obligations.CrcData8FeedsTheLowByte : Prop :=
  ∀ (data : Word) (s : State), decode (descriptor 0b10 1 0x0C data) = .wrCrcData8 data ∧
    ∃ t, exec (.wrCrcData8 data) s = .next t ∧
      t.ccb = { s.ccb with crcState := crcStep s.ccb.crcState (data.extractLsb' 0 8) }

/-- R507: four bytes, DATA[31:24] first. -/
def Obligations.CrcData32FeedsFourBytes : Prop :=
  ∀ (data : Word) (s : State), decode (descriptor 0b10 1 0x10 data) = .wrCrcData32 data ∧
    ∃ t, exec (.wrCrcData32 data) s = .next t ∧
      t.ccb = { s.ccb with
        crcState := crcStep (crcStep (crcStep (crcStep s.ccb.crcState (data.extractLsb' 24 8))
          (data.extractLsb' 16 8)) (data.extractLsb' 8 8)) (data.extractLsb' 0 8) }

/-- R504, R505: the reads of CRC_STATE and CRC_RESULT, which restart nothing. -/
def Obligations.CrcReadsGiveStateAndResult : Prop :=
  ∀ (data : Word) (s : State),
    ∀ p ∈ [((0x14 : BitVec 7), Instr.rdCrcState, s.ccb.crcState), (0x18, .rdCrcResult, s.ccb.crcState ^^^ 0xFFFFFFFF)],
      decode (descriptor 0b10 0 p.1 data) = p.2.1 ∧
      ∃ t, exec p.2.1 s = .next t ∧ t.ccb = s.ccb ∧ t.log = s.log ++ [.value p.2.2]

/-- R501: the byte enters least significant bit first, one bit at a time. -/
def Obligations.CrcStepEntersLeastSignificantBitFirst : Prop :=
  ∀ (c : Word) (b : Byte),
    crcStep c b = [0, 1, 2, 3, 4, 5, 6, 7].foldl (fun x n => crcBit x (b.getLsbD n)) c

/-- R502, R512: the shift constant is the bit reversal of the polynomial, and the step is linear over GF(2). -/
def Obligations.CrcArithmeticIsOverGf2 : Prop :=
  (∀ n, n < 32 → (0xEDB88320 : Word).getLsbD n = (0x04C11DB7 : Word).getLsbD (31 - n)) ∧
  (∀ (c₁ c₂ : Word) (b₁ b₂ : Byte), crcStep (c₁ ^^^ c₂) (b₁ ^^^ b₂) = crcStep c₁ b₁ ^^^ crcStep c₂ b₂)

/-- R511, R207: CRC_STATE depends only on the bytes fed, in order, not on how they are cut into accesses or on reads
between them. -/
def Obligations.CrcStateDependsOnlyOnTheBytesFed : Prop :=
  ∀ (is : List Instr) (s : State),
    (∀ i ∈ is, isRead i = true ∨ ∃ data, i = .wrCrcData8 data ∨ i = .wrCrcData32 data) →
    ∃ t, execAll is s = .next t ∧ t.ccb = { s.ccb with crcState := (is.flatMap crcBytesOf).foldl crcStep s.ccb.crcState }

/-- R509, R505, R500: the build path reads the CRC of the tag's bytes followed by the payload, for every payload. -/
def Obligations.BuildPathReadsTheChunkCrc : Prop :=
  ∀ (tag : Word) (payload : List Byte) (s : State), ∃ t,
    execAll (buildPath tag payload) s = .next t ∧
    t.log.getLast? = some (.value (crc32 (wireBytes tag ++ payload)))

/-! ### Chunk decoder: commands -/

/-- R614, R615, R618, R605: START_FILE, START_STREAM and ABORT perform DecInit in every phase; CRC_STATE, TAG_IN, IRQ_EN,
CMD_ERR and OVF are kept. A stream with no byte ends DONE (R615). -/
def Obligations.StartAndAbortReinitialise : Prop :=
  (∀ s : State,
    ∀ p ∈ [((0x10 : Word), Instr.cmdDecStartFile, Phase.sig, true), (0x11, .cmdDecStartStream, .len, false),
        (0x14, .cmdDecAbort, .idle, false)],
      decode (descriptor 0b10 1 0x00 p.1) = p.2.1 ∧
      ∃ t, exec p.2.1 s = .next t ∧
        t.ccb = { Ccb.reset with
          decPhase := p.2.2.1, decMode := p.2.2.2
          crcState := s.ccb.crcState, tagIn := s.ccb.tagIn, irqEn := s.ccb.irqEn
          cmdErr := s.ccb.cmdErr, ovf := s.ccb.ovf }) ∧
  (∀ s : State, ∃ t, execAll [.cmdDecStartStream, .cmdDecEnd] s = .next t ∧ t.ccb.decPhase = .done ∧ t.ccb.chCount = 0)

/-- R616, with k of R604 written out: the end of the input, by phase. -/
def Obligations.EndOfInputByPhase : Prop :=
  decode (descriptor 0b10 1 0x00 0x12) = .cmdDecEnd ∧
  ∀ s : State, ∃ t, exec .cmdDecEnd s = .next t ∧
    let c := s.ccb
    let fails (e : DecErr) : Prop := t.ccb = { c with decPhase := .error, decErr := e, decFpos := 0 }
    let inPayload := 8 + (c.chLen.toNat - c.decRemain.toNat)
    let inCrc := 8 + c.chLen.toNat + c.decFpos.toNat
    (c.decPhase = .sig → fails .badSignature) ∧
    (c.decPhase = .len → c.decFpos = 0 → t.ccb = { c with decPhase := .done }) ∧
    (c.decPhase = .len → c.decFpos ≠ 0 → fails .chunkTooShort) ∧
    (c.decPhase = .type → fails .chunkTooShort) ∧
    (c.decPhase = .payload → inPayload < 12 → fails .chunkTooShort) ∧
    (c.decPhase = .payload → 12 ≤ inPayload → fails .truncated) ∧
    (c.decPhase = .crc → inCrc < 12 → fails .chunkTooShort) ∧
    (c.decPhase = .crc → 12 ≤ inCrc → fails .truncated) ∧
    (c.decPhase ∉ [Phase.sig, .len, .type, .payload, .crc] → t.ccb = { c with cmdErr := true })

/-- R617: ACK in READY; rejected elsewhere. -/
def Obligations.AckReleasesAReadyChunk : Prop :=
  decode (descriptor 0b10 1 0x00 0x13) = .cmdDecAck ∧
  (∀ s : State, s.ccb.decPhase = .ready →
    ∃ t, exec .cmdDecAck s = .next t ∧ t.ccb = { s.ccb with decPhase := .len, decFpos := 0 }) ∧
  (∀ s : State, s.ccb.decPhase ≠ .ready →
    ∃ t, exec .cmdDecAck s = .next t ∧ t.ccb = { s.ccb with cmdErr := true })

/-! ### Chunk decoder: the byte input -/

/-- R607, R603: outside the accepting phases a byte is dropped: OVF <- 1 and nothing else. -/
def Obligations.ByteOutsideAcceptingPhaseIsDropped : Prop :=
  ∀ (data : Word) (s : State), decode (descriptor 0b10 1 0x24 data) = .wrDecData8 data ∧
    (s.ccb.decPhase ∉ [Phase.sig, .len, .type, .payload, .crc] →
      ∃ t, exec (.wrDecData8 data) s = .next t ∧ t.ccb = { s.ccb with ovf := true })

/-- R608, R601: one signature byte. The eight bytes of PNG_SIG are the constant the model takes (log entry 6). -/
def Obligations.SignatureByteStep : Prop :=
  ∀ (data : Word) (s : State), s.ccb.decPhase = .sig →
    ∃ t, exec (.wrDecData8 data) s = .next t ∧
      let b := data.extractLsb' 0 8
      let c := { s.ccb with decCount := s.ccb.decCount + 1 }
      let want := ([0x89, 0x50, 0x4E, 0x47, 0x0D, 0x0A, 0x1A, 0x0A] : List Byte)[c.decFpos.toNat]?
      (some b ≠ want → t.ccb = { c with decPhase := .error, decErr := .badSignature, decFpos := 0 }) ∧
      (some b = want → c.decFpos = 7 → t.ccb = { c with decPhase := .len, decFpos := 0 }) ∧
      (some b = want → c.decFpos ≠ 7 → t.ccb = { c with decFpos := c.decFpos + 1 })

/-- R609: one length byte; the first of a chunk clears the chunk's fields and records its offset. -/
def Obligations.LengthByteStep : Prop :=
  ∀ (data : Word) (s : State), s.ccb.decPhase = .len →
    ∃ t, exec (.wrDecData8 data) s = .next t ∧
      let b := data.extractLsb' 0 8
      let c := { s.ccb with decCount := s.ccb.decCount + 1 }
      (c.decFpos = 0 → t.ccb = { c with
        chOffset := s.ccb.decCount, chLen := b.setWidth 32, chType := 0, chCrcStored := 0, decRemain := 0
        decTagBad := false, decCrc := 0xFFFFFFFF, decFpos := 1 }) ∧
      (c.decFpos ≠ 0 → c.decFpos ≠ 3 → t.ccb = { c with
        chLen := c.chLen <<< 8 ||| b.setWidth 32, decFpos := c.decFpos + 1 }) ∧
      (c.decFpos = 3 → t.ccb = { c with
        chLen := c.chLen <<< 8 ||| b.setWidth 32, decFpos := 0, decPhase := .type })

/-- R610: one type-tag byte; a non-letter only sets DEC_TAG_BAD. -/
def Obligations.TypeByteStep : Prop :=
  ∀ (data : Word) (s : State), s.ccb.decPhase = .type →
    ∃ t, exec (.wrDecData8 data) s = .next t ∧
      let b := data.extractLsb' 0 8
      let c := { s.ccb with
        decCount := s.ccb.decCount + 1
        chType := s.ccb.chType <<< 8 ||| b.setWidth 32
        decTagBad := if isAlpha b then s.ccb.decTagBad else true
        decCrc := crcStep s.ccb.decCrc b }
      (c.decFpos ≠ 3 → t.ccb = { c with decFpos := c.decFpos + 1 }) ∧
      (c.decFpos = 3 → c.chLen = 0 →
        t.ccb = { c with decRemain := 0, decFpos := 0, decPhase := .crc }) ∧
      (c.decFpos = 3 → c.chLen ≠ 0 →
        t.ccb = { c with decRemain := c.chLen, decFpos := 0, decPhase := .payload })

/-- R611, R613: one payload byte. -/
def Obligations.PayloadByteStep : Prop :=
  ∀ (data : Word) (s : State), s.ccb.decPhase = .payload →
    ∃ t, exec (.wrDecData8 data) s = .next t ∧
      let b := data.extractLsb' 0 8
      let c := { s.ccb with
        decCount := s.ccb.decCount + 1
        decCrc := crcStep s.ccb.decCrc b
        decRemain := s.ccb.decRemain - 1 }
      let badTag := c.decTagBad = true ∧ c.chLen - c.decRemain = 4
      (badTag → t.ccb = { c with decPhase := .error, decErr := .invalidChunkType, decFpos := 0 }) ∧
      (¬badTag → c.decRemain = 0 → t.ccb = { c with decPhase := .crc, decFpos := 0 }) ∧
      (¬badTag → c.decRemain ≠ 0 → t.ccb = c)

/-- R612, R613: one stored-CRC byte; the bad tag comes before the comparison. -/
def Obligations.CrcByteStep : Prop :=
  ∀ (data : Word) (s : State), s.ccb.decPhase = .crc →
    ∃ t, exec (.wrDecData8 data) s = .next t ∧
      let b := data.extractLsb' 0 8
      let c := { s.ccb with
        decCount := s.ccb.decCount + 1
        chCrcStored := s.ccb.chCrcStored <<< 8 ||| b.setWidth 32 }
      let badTag := c.decTagBad = true ∧ c.chLen.toNat + (c.decFpos.toNat + 1) = 4
      let matching := c.chCrcStored = c.decCrc ^^^ 0xFFFFFFFF
      (badTag → t.ccb = { c with decPhase := .error, decErr := .invalidChunkType, decFpos := 0 }) ∧
      (¬badTag → c.decFpos ≠ 3 → t.ccb = { c with decFpos := c.decFpos + 1 }) ∧
      (¬badTag → c.decFpos = 3 → matching →
        t.ccb = { c with decPhase := .ready, decFpos := 0, chCount := c.chCount + 1 }) ∧
      (¬badTag → c.decFpos = 3 → ¬matching →
        t.ccb = { c with decPhase := .error, decErr := .crcMismatch, decFpos := 0 })

/-! ### Chunk decoder: reads -/

/-- R619, R127, R602: the read value of DEC_STATE, field by field, with the numbers of the phases. -/
def Obligations.DecStateReadsByLayout : Prop :=
  ∀ (data : Word) (s : State), decode (descriptor 0b10 0 0x28 data) = .rdDecState ∧
    ∃ v t, exec .rdDecState s = .next t ∧ t.ccb = s.ccb ∧ t.log = s.log ++ [.value v] ∧
      (s.ccb.decPhase = .idle → v.extractLsb' 0 4 = 0) ∧ (s.ccb.decPhase = .sig → v.extractLsb' 0 4 = 1) ∧
      (s.ccb.decPhase = .len → v.extractLsb' 0 4 = 2) ∧ (s.ccb.decPhase = .type → v.extractLsb' 0 4 = 3) ∧
      (s.ccb.decPhase = .payload → v.extractLsb' 0 4 = 4) ∧ (s.ccb.decPhase = .crc → v.extractLsb' 0 4 = 5) ∧
      (s.ccb.decPhase = .ready → v.extractLsb' 0 4 = 6) ∧ (s.ccb.decPhase = .done → v.extractLsb' 0 4 = 7) ∧
      (s.ccb.decPhase = .error → v.extractLsb' 0 4 = 8) ∧ v.getLsbD 4 = s.ccb.decMode ∧
      v.getLsbD 5 = s.ccb.decTagBad ∧ v.extractLsb' 6 2 = 0 ∧ v.extractLsb' 8 3 = s.ccb.decFpos ∧
      v.extractLsb' 11 21 = 0

/-- R620 to R623, R625 to R628: the other reads of the decoder. -/
def Obligations.DecoderReadsGiveTheirElements : Prop :=
  ∀ (data : Word) (s : State),
    ∀ p ∈ [((0x2C : BitVec 7), Instr.rdDecCount, s.ccb.decCount), (0x30, .rdDecRemain, s.ccb.decRemain),
        (0x34, .rdChLen, s.ccb.chLen), (0x38, .rdChType, s.ccb.chType), (0x40, .rdChCrcStored, s.ccb.chCrcStored),
        (0x44, .rdChCrcCalc, s.ccb.decCrc ^^^ 0xFFFFFFFF), (0x48, .rdChOffset, s.ccb.chOffset),
        (0x4C, .rdChCount, s.ccb.chCount)],
      decode (descriptor 0b10 0 p.1 data) = p.2.1 ∧
      ∃ t, exec p.2.1 s = .next t ∧ t.ccb = s.ccb ∧ t.log = s.log ++ [.value p.2.2]

/-! ### Chunk decoder: whole fields and chunks -/

/-- R608, R601, R614: after START_FILE, bytes that begin the signature keep the decoder in SIG, the whole signature brings
it to LEN, and any other first 8 bytes end in BAD_SIGNATURE. The eight bytes of PNG_SIG are the constant the model takes
(log entry 6). -/
def Obligations.SignatureGatesTheFile : Prop :=
  ∀ (bytes : List Byte) (s : State), bytes.length ≤ 8 →
    let sig : List Byte := [0x89, 0x50, 0x4E, 0x47, 0x0D, 0x0A, 0x1A, 0x0A]
    ∃ t, execAll (.cmdDecStartFile :: feed bytes) s = .next t ∧
      (bytes = sig → t.ccb.decPhase = .len ∧ t.ccb.decFpos = 0 ∧ t.ccb.decCount = 8 ∧ t.ccb.decMode = true) ∧
      (bytes ≠ sig → bytes <+: sig → t.ccb.decPhase = .sig ∧ t.ccb.decFpos.toNat = bytes.length) ∧
      (¬bytes <+: sig → t.ccb.decPhase = .error ∧ t.ccb.decErr = .badSignature)

/-- R609, R610, R204: from a chunk boundary, the 8 header bytes give the big-endian length and the tag, load DEC_REMAIN,
and start the CRC over the tag's bytes. -/
def Obligations.HeaderBytesFillLengthAndTag : Prop :=
  ∀ (len tag : Word) (s : State), s.ccb.decPhase = .len → s.ccb.decFpos = 0 →
    ∃ t, execAll (feed (wireBytes len ++ wireBytes tag)) s = .next t ∧
      t.ccb = { s.ccb with
        decPhase := if len = 0 then .crc else .payload
        decFpos := 0
        decTagBad := !(wireBytes tag).all isAlpha
        decCount := s.ccb.decCount + 8
        decRemain := len
        decCrc := crcFold 0xFFFFFFFF (wireBytes tag)
        chLen := len, chType := tag, chCrcStored := 0, chOffset := s.ccb.decCount }

/-- R510, R509, R633, R612: from a chunk boundary, a chunk with an alphabetic tag whose stored CRC is that of its tag and
payload reaches READY with the stored CRC equal to the computed one; with any other stored CRC it ends in CRC_MISMATCH. -/
def Obligations.ChunkIsAcceptedExactlyWithItsCrc : Prop :=
  ∀ (tag stored : Word) (payload : List Byte) (s : State),
    s.ccb.decPhase = .len → s.ccb.decFpos = 0 → (wireBytes tag).all isAlpha = true → payload.length < 2 ^ 32 →
    ∃ t, execAll (feed (wireBytes (BitVec.ofNat 32 payload.length) ++ wireBytes tag ++ payload ++ wireBytes stored)) s =
        .next t ∧
      t.ccb.chLen.toNat = payload.length ∧ t.ccb.chType = tag ∧ t.ccb.chCrcStored = stored ∧
      t.ccb.decCrc ^^^ 0xFFFFFFFF = crc32 (wireBytes tag ++ payload) ∧ t.ccb.chOffset = s.ccb.decCount ∧
      (stored = crc32 (wireBytes tag ++ payload) →
        t.ccb.decPhase = .ready ∧ t.ccb.chCount = s.ccb.chCount + 1) ∧
      (stored ≠ crc32 (wireBytes tag ++ payload) →
        t.ccb.decPhase = .error ∧ t.ccb.decErr = .crcMismatch ∧ t.ccb.chCount = s.ccb.chCount)

/-- R613, R616, R803: from a chunk boundary, a chunk whose tag has a non-letter fails with INVALID_CHUNK_TYPE at its 12th
byte, whatever its length and its later bytes, and with CHUNK_TOO_SHORT where the input ends after 1 to 11 bytes. -/
def Obligations.BadTagIsReportedAtTheTwelfthByte : Prop :=
  ∀ (len tag after : Word) (n : Nat) (s : State),
    s.ccb.decPhase = .len → s.ccb.decFpos = 0 → (wireBytes tag).all isAlpha = false →
    let bytes := wireBytes len ++ wireBytes tag ++ wireBytes after
    (∃ t, execAll (feed bytes) s = .next t ∧ t.ccb.decPhase = .error ∧ t.ccb.decErr = .invalidChunkType) ∧
    (1 ≤ n → n < 12 → ∃ t, execAll (feed (bytes.take n) ++ [.cmdDecEnd]) s = .next t ∧
      t.ccb.decPhase = .error ∧ t.ccb.decErr = .chunkTooShort)

/-- R634 (a) and (b): the host's procedure on any buffer ends DONE exactly when the source's parse succeeds, with the same
chunks recorded; otherwise it ends in ERROR with the failure the source's parse surfaces. The signature both use is the constant the model
takes (log entry 6). The cursor positions are compared modulo 2^32: the source's is unbounded, and taking it modulo 2^32
for buffers of 2^32 bytes or more is the model's choice (log entry 14). -/
def Obligations.HostParseAgreesWithTheSource : Prop :=
  ∀ (buffer : List Byte) (s : State),
    ∀ p ∈ [(hostParse .cmdDecStartFile buffer s, parseFile buffer),
        (hostParse .cmdDecStartStream buffer s, parseStream buffer)],
      p.1.2 = p.2.1 ∧
      (p.2.2 = none → p.1.1.ccb.decPhase = .done) ∧
      (∀ e, p.2.2 = some e → p.1.1.ccb.decPhase = .error ∧ p.1.1.ccb.decErr = e)

/-! ### Invariants -/

/-- R636 (ii) to (viii): every step keeps the reachable-state invariants, from every state that meets them. -/
def Obligations.StepKeepsReachableInvariants : Prop :=
  ∀ s t : State, s.ccb.reachableInv → step s = .next t → t.ccb.reachableInv

/-- R103, R126: every step keeps the hardwired bits of IRQ_EN at 0. R107: every step keeps the signature phase in file mode,
so a stream decode never checks a signature. -/
def Obligations.StepKeepsHardwiredBitsAndSignatureMode : Prop :=
  (∀ s t : State, s.ccb.irqEnHardwired → step s = .next t → t.ccb.irqEnHardwired) ∧
  (∀ s t : State, s.ccb.sigInFileMode → step s = .next t → t.ccb.sigInFileMode)

/-- R636, R103, R107: the invariants hold at reset. -/
def Obligations.ResetMeetsTheInvariants : Prop :=
  State.reset.ccb.reachableInv ∧ State.reset.ccb.irqEnHardwired ∧ State.reset.ccb.sigInFileMode

/-! ### Whole-machine rules -/

/-- R207: no read changes an element, and the writes of TAG_IN, IRQ_EN and STATUS are idempotent. -/
def Obligations.ReadsChangeNothingAndPlainWritesAreIdempotent : Prop :=
  (∀ (i : Instr) (s t : State), isRead i = true → exec i s = .next t → t.ccb = s.ccb) ∧
  (∀ (data : Word) (i : Instr) (s t u : State), i ∈ [Instr.wrTagIn data, .wrIrqEn data, .wrStatus data] →
    exec i s = .next t → exec i t = .next u → u.ccb = t.ccb)

/-- R513: CRCGEN's three writing accesses and the decoder's six are different, only CRCGEN's change CRC_STATE, and only the
decoder's change a decoder element; but CMD_SOFT_RESET resets both. -/
def Obligations.CrcgenAndDecoderAreIndependent : Prop :=
  (∀ i : Instr, ¬(feedsCrcgen i = true ∧ drivesDecoder i = true)) ∧
  (∀ (i : Instr) (s t : State), exec i s = .next t → i ≠ .cmdSoftReset →
    (feedsCrcgen i = false → t.ccb.crcState = s.ccb.crcState) ∧
    (drivesDecoder i = false → t.ccb.sameDecoder s.ccb)) ∧
  (∀ s : State, ∃ t, exec .cmdSoftReset s = .next t ∧ t.ccb.crcState = Ccb.reset.crcState ∧
    t.ccb.sameDecoder Ccb.reset)

/-- R901, R104, R105, R107: which accesses change IRQ_EN, TAG_IN and DEC_MODE, and which clear the sticky flags. -/
def Obligations.OnlyNamedAccessesChangeControlElements : Prop :=
  ∀ (i : Instr) (s t : State), exec i s = .next t → i ≠ .cmdSoftReset →
    (t.ccb.irqEn ≠ s.ccb.irqEn → ∃ data, i = .wrIrqEn data) ∧
    (t.ccb.tagIn ≠ s.ccb.tagIn → ∃ data, i = .wrTagIn data) ∧
    (t.ccb.decMode ≠ s.ccb.decMode → i ∈ [Instr.cmdDecStartFile, .cmdDecStartStream, .cmdDecAbort]) ∧
    (s.ccb.cmdErr = true → t.ccb.cmdErr = false → ∃ data, i = .wrStatus data ∧ data.getLsbD 8 = true) ∧
    (s.ccb.ovf = true → t.ccb.ovf = false → ∃ data, i = .wrStatus data ∧ data.getLsbD 9 = true)

/-- R804, R800: CMD_ERR is set only by a CMD write, OVF only by a DEC_DATA8 write outside an accepting phase, so no access
sets both. -/
def Obligations.FlagsAreSetOnlyByTheirCauses : Prop :=
  ∀ (i : Instr) (s t : State), exec i s = .next t →
    (s.ccb.cmdErr = false → t.ccb.cmdErr = true →
      (∃ data, i = .cmdIllegal data) ∨
      (i = .cmdDecEnd ∧ s.ccb.decPhase ∉ [Phase.sig, .len, .type, .payload, .crc]) ∨
      (i = .cmdDecAck ∧ s.ccb.decPhase ≠ .ready)) ∧
    (s.ccb.ovf = false → t.ccb.ovf = true →
      (∃ data, i = .wrDecData8 data) ∧ s.ccb.decPhase ∉ [Phase.sig, .len, .type, .payload, .crc])

/-- R633, R612: READY is entered only by the fourth stored-CRC byte of a chunk whose stored CRC equals the computed one, and
CH_COUNT advances then. R118: CH_COUNT changes in no other way but to 0, by DecInit or CMD_SOFT_RESET. -/
def Obligations.ReadyOnlyThroughAMatchingCrc : Prop :=
  ∀ (i : Instr) (s t : State), exec i s = .next t →
    (s.ccb.decPhase ≠ .ready → t.ccb.decPhase = .ready →
      (∃ data, i = .wrDecData8 data) ∧ s.ccb.decPhase = .crc ∧ s.ccb.decFpos = 3 ∧
      t.ccb.chCrcStored = t.ccb.decCrc ^^^ 0xFFFFFFFF ∧ t.ccb.decCrc = s.ccb.decCrc ∧
      t.ccb.chCount = s.ccb.chCount + 1) ∧
    (t.ccb.chCount ≠ s.ccb.chCount →
      (s.ccb.decPhase ≠ .ready ∧ t.ccb.decPhase = .ready) ∨
      (i ∈ [Instr.cmdDecStartFile, .cmdDecStartStream, .cmdDecAbort, .cmdSoftReset] ∧ t.ccb.chCount = 0))

/-- R631, R806: DONE and ERROR are left only by START_FILE, START_STREAM, ABORT and the resets; in ERROR no second decoder
error replaces the first. -/
def Obligations.FinalPhasesAreLeftOnlyByRestart : Prop :=
  ∀ (i : Instr) (s t : State), exec i s = .next t → s.ccb.decPhase = .done ∨ s.ccb.decPhase = .error →
    i ∉ [Instr.cmdDecStartFile, .cmdDecStartStream, .cmdDecAbort, .cmdSoftReset] → t.ccb.sameDecoder s.ccb

/-- R111, R620: DEC_COUNT counts accepted bytes modulo 2^32, and is cleared only by DecInit or a reset. -/
def Obligations.DecCountCountsAcceptedBytes : Prop :=
  ∀ (i : Instr) (s t : State), exec i s = .next t →
    (i ∈ [Instr.cmdDecStartFile, .cmdDecStartStream, .cmdDecAbort, .cmdSoftReset] → t.ccb.decCount = 0) ∧
    (i ∉ [Instr.cmdDecStartFile, .cmdDecStartStream, .cmdDecAbort, .cmdSoftReset] →
      t.ccb.decCount = s.ccb.decCount ∨
        (t.ccb.decCount = s.ccb.decCount + 1 ∧ (∃ data, i = .wrDecData8 data) ∧
          s.ccb.decPhase ∈ [Phase.sig, .len, .type, .payload, .crc])) ∧
    (∀ data, i = .wrDecData8 data → s.ccb.decPhase ∈ [Phase.sig, .len, .type, .payload, .crc] →
      t.ccb.decCount = s.ccb.decCount + 1)

/-- R914, R913, R9: a host program runs to its last access. Every access gives exactly one outcome, a bus error included,
and a reset gives none; under the premise `no_bus_error` of R915 no outcome is a bus error. Where the outcomes stand is the
model's choice (log entries 2 and 3). -/
def Obligations.RunsRecordEveryAccess : Prop :=
  ∀ (es : List HostEvent) (c : Ccb),
    (observe es c).outcomes.length = (es.filter (fun e => e != .reset)).length ∧
    (noBusError es → ∀ (w : BitVec 1) (size : BitVec 2) (off : BitVec 7),
      Response.busError w size off ∉ (observe es c).outcomes)
end

