-- ==== Sys2Proof/Laws/Crc.lean ====
section
/-! SUPPORT. The CRC as a fold, and one round over GF(2). -/

namespace Sys2Proof.Machine

@[simp] theorem crcFold_nil (c : Word) : crcFold c [] = c := rfl

@[simp] theorem crcFold_cons (c : Word) (b : Byte) (bs : List Byte) :
    crcFold c (b :: bs) = crcFold (crcStep c b) bs := rfl

@[simp] theorem crcFold_append (c : Word) (as bs : List Byte) :
    crcFold c (as ++ bs) = crcFold (crcFold c as) bs := by
  simp only [crcFold, List.foldl_append]

/-- R512: one round is linear over GF(2). -/
theorem crcRound_xor (a b : Word) : crcRound (a ^^^ b) = crcRound a ^^^ crcRound b := by
  simp only [crcRound, BitVec.getLsbD_xor, BitVec.ushiftRight_xor_distrib]
  have swap (x y z : Word) : x ^^^ z ^^^ y = x ^^^ y ^^^ z := by rw [BitVec.xor_assoc, BitVec.xor_comm z, BitVec.xor_assoc]
  cases a.getLsbD 0 <;> cases b.getLsbD 0 <;> simp [← BitVec.xor_assoc, swap]

theorem crcRounds_xor (n : Nat) (a b : Word) : crcRounds n (a ^^^ b) = crcRounds n a ^^^ crcRounds n b := by
  induction n generalizing a b with
  | zero => rfl
  | succ n ih => rw [crcRounds, crcRound_xor, ih, crcRounds, crcRounds]

end Sys2Proof.Machine
end

