-- ==== Sys2Proof/Laws/Decode.lean ====
section
/-! SUPPORT. What the parts of the decoder and the encoder do: fields of a descriptor, the register map both ways, and
which offsets have no register. -/

namespace Sys2Proof

/-- Bit `i` of a descriptor, by the field it lies in (R300). -/
theorem getLsbD_descriptor (size : BitVec 2) (w : BitVec 1) (off : BitVec 7) (data : Word) (i : Nat) :
    (descriptor size w off data).getLsbD i =
      if i < 32 then data.getLsbD i else if i - 32 < 7 then off.getLsbD (i - 32)
      else if i - 32 - 7 < 1 then w.getLsbD (i - 32 - 7) else size.getLsbD (i - 32 - 7 - 1) := by
  simp only [descriptor, BitVec.getLsbD_append]

@[simp] theorem sizeField_descriptor (size : BitVec 2) (w : BitVec 1) (off : BitVec 7) (data : Word) :
    sizeField (descriptor size w off data) = size := by
  apply BitVec.eq_of_getLsbD_eq
  intro i hi
  simp only [sizeField, BitVec.getLsbD_extractLsb', getLsbD_descriptor, hi, decide_true, Bool.true_and]
  rw [if_neg (by omega), if_neg (by omega), if_neg (by omega)]
  congr 1; omega

@[simp] theorem writeField_descriptor (size : BitVec 2) (w : BitVec 1) (off : BitVec 7) (data : Word) :
    writeField (descriptor size w off data) = w := by
  apply BitVec.eq_of_getLsbD_eq
  intro i hi
  simp only [writeField, BitVec.getLsbD_extractLsb', getLsbD_descriptor, hi, decide_true, Bool.true_and]
  rw [if_neg (by omega), if_neg (by omega), if_pos (by omega)]
  congr 1; omega

@[simp] theorem offField_descriptor (size : BitVec 2) (w : BitVec 1) (off : BitVec 7) (data : Word) :
    offField (descriptor size w off data) = off := by
  apply BitVec.eq_of_getLsbD_eq
  intro i hi
  simp only [offField, BitVec.getLsbD_extractLsb', getLsbD_descriptor, hi, decide_true, Bool.true_and]
  rw [if_neg (by omega), if_pos (by omega)]
  congr 1; omega

@[simp] theorem dataField_descriptor (size : BitVec 2) (w : BitVec 1) (off : BitVec 7) (data : Word) :
    dataField (descriptor size w off data) = data := by
  apply BitVec.eq_of_getLsbD_eq
  intro i hi
  simp only [dataField, BitVec.getLsbD_extractLsb', getLsbD_descriptor, hi, decide_true, Bool.true_and]
  rw [if_pos (by omega), Nat.zero_add]

/-- A descriptor is its four fields. -/
theorem descriptor_fields (d : Descriptor) :
    descriptor (sizeField d) (writeField d) (offField d) (dataField d) = d := by
  apply BitVec.eq_of_getLsbD_eq
  intro i hi
  simp only [descriptor, sizeField, writeField, offField, dataField, BitVec.getLsbD_append,
    BitVec.getLsbD_extractLsb']
  split
  · simp [*]
  split
  · simp [*, show 32 + (i - 32) = i by omega]
  split
  · simp [show i - 32 - 7 < 1 by omega, show 39 + (i - 32 - 7) = i by omega]
  · simp [show i - 32 - 7 - 1 < 2 by omega, show 40 + (i - 32 - 7 - 1) = i by omega]

@[simp] theorem regAt_regOffset (r : Reg) : regAt (regOffset r) = some r := by cases r <;> rfl

theorem regOffset_of_regAt (off : BitVec 7) (r : Reg) (h : regAt off = some r) : regOffset r = off := by
  revert off; cases r <;> decide

/-- R302: the offsets with no register are the misaligned ones and those from 0x50 up. -/
theorem regAt_isNone (off : BitVec 7) :
    (regAt off).isNone = (off.extractLsb' 0 2 != 0 || decide (0x50 ≤ off)) := by
  revert off; decide

end Sys2Proof
end

