-- ==== Sys2Proof/Laws/State.lean ====
section
/-! SUPPORT. One lemma per field per named update, each true by rfl, so that no proof unfolds a record update. -/

namespace Sys2Proof.Machine

@[simp] theorem enterError_crcState (e : DecErr) (c : Ccb) : (enterError e c).crcState = c.crcState := rfl
@[simp] theorem enterError_tagIn (e : DecErr) (c : Ccb) : (enterError e c).tagIn = c.tagIn := rfl
@[simp] theorem enterError_irqEn (e : DecErr) (c : Ccb) : (enterError e c).irqEn = c.irqEn := rfl
@[simp] theorem enterError_cmdErr (e : DecErr) (c : Ccb) : (enterError e c).cmdErr = c.cmdErr := rfl
@[simp] theorem enterError_ovf (e : DecErr) (c : Ccb) : (enterError e c).ovf = c.ovf := rfl
@[simp] theorem enterError_decPhase (e : DecErr) (c : Ccb) : (enterError e c).decPhase = .error := rfl
@[simp] theorem enterError_decMode (e : DecErr) (c : Ccb) : (enterError e c).decMode = c.decMode := rfl
@[simp] theorem enterError_decFpos (e : DecErr) (c : Ccb) : (enterError e c).decFpos = 0 := rfl
@[simp] theorem enterError_decTagBad (e : DecErr) (c : Ccb) : (enterError e c).decTagBad = c.decTagBad := rfl
@[simp] theorem enterError_decErr (e : DecErr) (c : Ccb) : (enterError e c).decErr = e := rfl
@[simp] theorem enterError_decCount (e : DecErr) (c : Ccb) : (enterError e c).decCount = c.decCount := rfl
@[simp] theorem enterError_decRemain (e : DecErr) (c : Ccb) : (enterError e c).decRemain = c.decRemain := rfl
@[simp] theorem enterError_decCrc (e : DecErr) (c : Ccb) : (enterError e c).decCrc = c.decCrc := rfl
@[simp] theorem enterError_chLen (e : DecErr) (c : Ccb) : (enterError e c).chLen = c.chLen := rfl
@[simp] theorem enterError_chType (e : DecErr) (c : Ccb) : (enterError e c).chType = c.chType := rfl
@[simp] theorem enterError_chCrcStored (e : DecErr) (c : Ccb) : (enterError e c).chCrcStored = c.chCrcStored := rfl
@[simp] theorem enterError_chOffset (e : DecErr) (c : Ccb) : (enterError e c).chOffset = c.chOffset := rfl
@[simp] theorem enterError_chCount (e : DecErr) (c : Ccb) : (enterError e c).chCount = c.chCount := rfl

@[simp] theorem decInit_crcState (p : Phase) (mode : Bool) (c : Ccb) : (decInit p mode c).crcState = c.crcState := rfl
@[simp] theorem decInit_tagIn (p : Phase) (mode : Bool) (c : Ccb) : (decInit p mode c).tagIn = c.tagIn := rfl
@[simp] theorem decInit_irqEn (p : Phase) (mode : Bool) (c : Ccb) : (decInit p mode c).irqEn = c.irqEn := rfl
@[simp] theorem decInit_cmdErr (p : Phase) (mode : Bool) (c : Ccb) : (decInit p mode c).cmdErr = c.cmdErr := rfl
@[simp] theorem decInit_ovf (p : Phase) (mode : Bool) (c : Ccb) : (decInit p mode c).ovf = c.ovf := rfl
@[simp] theorem decInit_decPhase (p : Phase) (mode : Bool) (c : Ccb) : (decInit p mode c).decPhase = p := rfl
@[simp] theorem decInit_decMode (p : Phase) (mode : Bool) (c : Ccb) : (decInit p mode c).decMode = mode := rfl
@[simp] theorem decInit_decFpos (p : Phase) (mode : Bool) (c : Ccb) : (decInit p mode c).decFpos = 0 := rfl
@[simp] theorem decInit_decTagBad (p : Phase) (mode : Bool) (c : Ccb) : (decInit p mode c).decTagBad = false := rfl
@[simp] theorem decInit_decErr (p : Phase) (mode : Bool) (c : Ccb) : (decInit p mode c).decErr = .noError := rfl
@[simp] theorem decInit_decCount (p : Phase) (mode : Bool) (c : Ccb) : (decInit p mode c).decCount = 0 := rfl
@[simp] theorem decInit_decRemain (p : Phase) (mode : Bool) (c : Ccb) : (decInit p mode c).decRemain = 0 := rfl
@[simp] theorem decInit_decCrc (p : Phase) (mode : Bool) (c : Ccb) : (decInit p mode c).decCrc = 0xFFFFFFFF := rfl
@[simp] theorem decInit_chLen (p : Phase) (mode : Bool) (c : Ccb) : (decInit p mode c).chLen = 0 := rfl
@[simp] theorem decInit_chType (p : Phase) (mode : Bool) (c : Ccb) : (decInit p mode c).chType = 0 := rfl
@[simp] theorem decInit_chCrcStored (p : Phase) (mode : Bool) (c : Ccb) : (decInit p mode c).chCrcStored = 0 := rfl
@[simp] theorem decInit_chOffset (p : Phase) (mode : Bool) (c : Ccb) : (decInit p mode c).chOffset = 0 := rfl
@[simp] theorem decInit_chCount (p : Phase) (mode : Bool) (c : Ccb) : (decInit p mode c).chCount = 0 := rfl

@[simp] theorem rejectCommand_crcState (c : Ccb) : (rejectCommand c).crcState = c.crcState := rfl
@[simp] theorem rejectCommand_tagIn (c : Ccb) : (rejectCommand c).tagIn = c.tagIn := rfl
@[simp] theorem rejectCommand_irqEn (c : Ccb) : (rejectCommand c).irqEn = c.irqEn := rfl
@[simp] theorem rejectCommand_cmdErr (c : Ccb) : (rejectCommand c).cmdErr = true := rfl
@[simp] theorem rejectCommand_ovf (c : Ccb) : (rejectCommand c).ovf = c.ovf := rfl
@[simp] theorem rejectCommand_decPhase (c : Ccb) : (rejectCommand c).decPhase = c.decPhase := rfl
@[simp] theorem rejectCommand_decMode (c : Ccb) : (rejectCommand c).decMode = c.decMode := rfl
@[simp] theorem rejectCommand_decFpos (c : Ccb) : (rejectCommand c).decFpos = c.decFpos := rfl
@[simp] theorem rejectCommand_decTagBad (c : Ccb) : (rejectCommand c).decTagBad = c.decTagBad := rfl
@[simp] theorem rejectCommand_decErr (c : Ccb) : (rejectCommand c).decErr = c.decErr := rfl
@[simp] theorem rejectCommand_decCount (c : Ccb) : (rejectCommand c).decCount = c.decCount := rfl
@[simp] theorem rejectCommand_decRemain (c : Ccb) : (rejectCommand c).decRemain = c.decRemain := rfl
@[simp] theorem rejectCommand_decCrc (c : Ccb) : (rejectCommand c).decCrc = c.decCrc := rfl
@[simp] theorem rejectCommand_chLen (c : Ccb) : (rejectCommand c).chLen = c.chLen := rfl
@[simp] theorem rejectCommand_chType (c : Ccb) : (rejectCommand c).chType = c.chType := rfl
@[simp] theorem rejectCommand_chCrcStored (c : Ccb) : (rejectCommand c).chCrcStored = c.chCrcStored := rfl
@[simp] theorem rejectCommand_chOffset (c : Ccb) : (rejectCommand c).chOffset = c.chOffset := rfl
@[simp] theorem rejectCommand_chCount (c : Ccb) : (rejectCommand c).chCount = c.chCount := rfl

@[simp] theorem beginChunk_crcState (old : Word) (c : Ccb) : (beginChunk old c).crcState = c.crcState := rfl
@[simp] theorem beginChunk_tagIn (old : Word) (c : Ccb) : (beginChunk old c).tagIn = c.tagIn := rfl
@[simp] theorem beginChunk_irqEn (old : Word) (c : Ccb) : (beginChunk old c).irqEn = c.irqEn := rfl
@[simp] theorem beginChunk_cmdErr (old : Word) (c : Ccb) : (beginChunk old c).cmdErr = c.cmdErr := rfl
@[simp] theorem beginChunk_ovf (old : Word) (c : Ccb) : (beginChunk old c).ovf = c.ovf := rfl
@[simp] theorem beginChunk_decPhase (old : Word) (c : Ccb) : (beginChunk old c).decPhase = c.decPhase := rfl
@[simp] theorem beginChunk_decMode (old : Word) (c : Ccb) : (beginChunk old c).decMode = c.decMode := rfl
@[simp] theorem beginChunk_decFpos (old : Word) (c : Ccb) : (beginChunk old c).decFpos = c.decFpos := rfl
@[simp] theorem beginChunk_decTagBad (old : Word) (c : Ccb) : (beginChunk old c).decTagBad = false := rfl
@[simp] theorem beginChunk_decErr (old : Word) (c : Ccb) : (beginChunk old c).decErr = c.decErr := rfl
@[simp] theorem beginChunk_decCount (old : Word) (c : Ccb) : (beginChunk old c).decCount = c.decCount := rfl
@[simp] theorem beginChunk_decRemain (old : Word) (c : Ccb) : (beginChunk old c).decRemain = 0 := rfl
@[simp] theorem beginChunk_decCrc (old : Word) (c : Ccb) : (beginChunk old c).decCrc = 0xFFFFFFFF := rfl
@[simp] theorem beginChunk_chLen (old : Word) (c : Ccb) : (beginChunk old c).chLen = 0 := rfl
@[simp] theorem beginChunk_chType (old : Word) (c : Ccb) : (beginChunk old c).chType = 0 := rfl
@[simp] theorem beginChunk_chCrcStored (old : Word) (c : Ccb) : (beginChunk old c).chCrcStored = 0 := rfl
@[simp] theorem beginChunk_chOffset (old : Word) (c : Ccb) : (beginChunk old c).chOffset = old := rfl
@[simp] theorem beginChunk_chCount (old : Word) (c : Ccb) : (beginChunk old c).chCount = c.chCount := rfl

@[simp] theorem resetElements_eq (c : Ccb) : resetElements c = Ccb.reset := rfl

@[simp] theorem hardwareReset_ccb (s : State) : (hardwareReset s).ccb = Ccb.reset := rfl
@[simp] theorem hardwareReset_pending (s : State) : (hardwareReset s).pending = s.pending := rfl
@[simp] theorem hardwareReset_log (s : State) : (hardwareReset s).log = s.log := rfl
@[simp] theorem popPending_ccb (rest : List HostEvent) (s : State) : (popPending rest s).ccb = s.ccb := rfl
@[simp] theorem popPending_pending (rest : List HostEvent) (s : State) : (popPending rest s).pending = rest := rfl
@[simp] theorem popPending_log (rest : List HostEvent) (s : State) : (popPending rest s).log = s.log := rfl
@[simp] theorem pushAccess_ccb (d : Descriptor) (s : State) : (pushAccess d s).ccb = s.ccb := rfl
@[simp] theorem pushAccess_pending (d : Descriptor) (s : State) : (pushAccess d s).pending = .access d :: s.pending := rfl
@[simp] theorem pushAccess_log (d : Descriptor) (s : State) : (pushAccess d s).log = s.log := rfl

end Sys2Proof.Machine
end

