-- ==== Sys2Proof/Laws/Exec.lean ====
section
/-! SUPPORT. What each instruction is as one completed access, so that no proof unfolds exec or a meaning; and what a
completed access and a sequence of accesses can answer. -/

namespace Sys2Proof.Machine

@[simp] theorem exec_cmdNop (s : State) :
    exec .cmdNop s = completeWrite s.ccb s := rfl
@[simp] theorem exec_cmdCrcInit (s : State) :
    exec .cmdCrcInit s = completeWrite { s.ccb with crcState := 0xFFFFFFFF } s := rfl
@[simp] theorem exec_cmdDecStartFile (s : State) :
    exec .cmdDecStartFile s = completeWrite (decInit .sig true s.ccb) s := rfl
@[simp] theorem exec_cmdDecStartStream (s : State) :
    exec .cmdDecStartStream s = completeWrite (decInit .len false s.ccb) s := rfl
@[simp] theorem exec_cmdDecEnd (s : State) :
    exec .cmdDecEnd s = completeWrite (endInput s.ccb) s := rfl
@[simp] theorem exec_cmdDecAck (s : State) :
    exec .cmdDecAck s = 
      completeWrite (if s.ccb.decPhase = .ready then { s.ccb with decPhase := .len, decFpos := 0 }
        else rejectCommand s.ccb) s := rfl
@[simp] theorem exec_cmdDecAbort (s : State) :
    exec .cmdDecAbort s = completeWrite (decInit .idle false s.ccb) s := rfl
@[simp] theorem exec_cmdSoftReset (s : State) :
    exec .cmdSoftReset s = completeWrite Ccb.reset s := rfl
@[simp] theorem exec_cmdIllegal (data : Word) (s : State) :
    exec (.cmdIllegal data) s = completeWrite (rejectCommand s.ccb) s := rfl
@[simp] theorem exec_wrStatus (data : Word) (s : State) :
    exec (.wrStatus data) s = 
      completeWrite { s.ccb with
        cmdErr := if clearsCmdErr data then false else s.ccb.cmdErr
        ovf := if clearsOvf data then false else s.ccb.ovf } s := rfl
@[simp] theorem exec_wrIrqEn (data : Word) (s : State) :
    exec (.wrIrqEn data) s = completeWrite { s.ccb with irqEn := irqEnOperand data } s := rfl
@[simp] theorem exec_wrCrcData8 (data : Word) (s : State) :
    exec (.wrCrcData8 data) s = 
      completeWrite { s.ccb with crcState := crcStep s.ccb.crcState (byteOperand data) } s := rfl
@[simp] theorem exec_wrCrcData32 (data : Word) (s : State) :
    exec (.wrCrcData32 data) s = 
      completeWrite { s.ccb with crcState := crcFold s.ccb.crcState (wireBytes data) } s := rfl
@[simp] theorem exec_wrTagIn (data : Word) (s : State) :
    exec (.wrTagIn data) s = completeWrite { s.ccb with tagIn := data } s := rfl
@[simp] theorem exec_wrDecData8 (data : Word) (s : State) :
    exec (.wrDecData8 data) s = 
      completeWrite (feedByte (byteOperand data) s.ccb) s := rfl
@[simp] theorem exec_wrRoCrcState (data : Word) (s : State) :
    exec (.wrRoCrcState data) s = completeWrite s.ccb s := rfl
@[simp] theorem exec_wrRoCrcResult (data : Word) (s : State) :
    exec (.wrRoCrcResult data) s = completeWrite s.ccb s := rfl
@[simp] theorem exec_wrRoTagFlags (data : Word) (s : State) :
    exec (.wrRoTagFlags data) s = completeWrite s.ccb s := rfl
@[simp] theorem exec_wrRoDecState (data : Word) (s : State) :
    exec (.wrRoDecState data) s = completeWrite s.ccb s := rfl
@[simp] theorem exec_wrRoDecCount (data : Word) (s : State) :
    exec (.wrRoDecCount data) s = completeWrite s.ccb s := rfl
@[simp] theorem exec_wrRoDecRemain (data : Word) (s : State) :
    exec (.wrRoDecRemain data) s = completeWrite s.ccb s := rfl
@[simp] theorem exec_wrRoChLen (data : Word) (s : State) :
    exec (.wrRoChLen data) s = completeWrite s.ccb s := rfl
@[simp] theorem exec_wrRoChType (data : Word) (s : State) :
    exec (.wrRoChType data) s = completeWrite s.ccb s := rfl
@[simp] theorem exec_wrRoChFlags (data : Word) (s : State) :
    exec (.wrRoChFlags data) s = completeWrite s.ccb s := rfl
@[simp] theorem exec_wrRoChCrcStored (data : Word) (s : State) :
    exec (.wrRoChCrcStored data) s = completeWrite s.ccb s := rfl
@[simp] theorem exec_wrRoChCrcCalc (data : Word) (s : State) :
    exec (.wrRoChCrcCalc data) s = completeWrite s.ccb s := rfl
@[simp] theorem exec_wrRoChOffset (data : Word) (s : State) :
    exec (.wrRoChOffset data) s = completeWrite s.ccb s := rfl
@[simp] theorem exec_wrRoChCount (data : Word) (s : State) :
    exec (.wrRoChCount data) s = completeWrite s.ccb s := rfl
@[simp] theorem exec_rdStatus (s : State) :
    exec .rdStatus s = completeRead (statusWord s.ccb) s := rfl
@[simp] theorem exec_rdIrqEn (s : State) :
    exec .rdIrqEn s = completeRead s.ccb.irqEn s := rfl
@[simp] theorem exec_rdCrcState (s : State) :
    exec .rdCrcState s = completeRead s.ccb.crcState s := rfl
@[simp] theorem exec_rdCrcResult (s : State) :
    exec .rdCrcResult s = completeRead (crcResult s.ccb) s := rfl
@[simp] theorem exec_rdTagIn (s : State) :
    exec .rdTagIn s = completeRead s.ccb.tagIn s := rfl
@[simp] theorem exec_rdTagFlags (s : State) :
    exec .rdTagFlags s = completeRead (tagFlags s.ccb.tagIn) s := rfl
@[simp] theorem exec_rdDecState (s : State) :
    exec .rdDecState s = completeRead (decStateWord s.ccb) s := rfl
@[simp] theorem exec_rdDecCount (s : State) :
    exec .rdDecCount s = completeRead s.ccb.decCount s := rfl
@[simp] theorem exec_rdDecRemain (s : State) :
    exec .rdDecRemain s = completeRead s.ccb.decRemain s := rfl
@[simp] theorem exec_rdChLen (s : State) :
    exec .rdChLen s = completeRead s.ccb.chLen s := rfl
@[simp] theorem exec_rdChType (s : State) :
    exec .rdChType s = completeRead s.ccb.chType s := rfl
@[simp] theorem exec_rdChFlags (s : State) :
    exec .rdChFlags s = completeRead (tagFlags s.ccb.chType) s := rfl
@[simp] theorem exec_rdChCrcStored (s : State) :
    exec .rdChCrcStored s = completeRead s.ccb.chCrcStored s := rfl
@[simp] theorem exec_rdChCrcCalc (s : State) :
    exec .rdChCrcCalc s = completeRead (chCrcCalc s.ccb) s := rfl
@[simp] theorem exec_rdChOffset (s : State) :
    exec .rdChOffset s = completeRead s.ccb.chOffset s := rfl
@[simp] theorem exec_rdChCount (s : State) :
    exec .rdChCount s = completeRead s.ccb.chCount s := rfl
@[simp] theorem exec_rdWoCmd (s : State) :
    exec .rdWoCmd s = completeRead 0 s := rfl
@[simp] theorem exec_rdWoCrcData8 (s : State) :
    exec .rdWoCrcData8 s = completeRead 0 s := rfl
@[simp] theorem exec_rdWoCrcData32 (s : State) :
    exec .rdWoCrcData32 s = completeRead 0 s := rfl
@[simp] theorem exec_rdWoDecData8 (s : State) :
    exec .rdWoDecData8 s = completeRead 0 s := rfl
@[simp] theorem exec_busError (size : BitVec 2) (w : BitVec 1) (off : BitVec 7) (data : Word) (s : State) :
    exec (.busError size w off data) s = .fault (.busError w size off) := rfl

/-- What an access makes of the 18 elements, read off `exec`. -/
def effectOf (i : Instr) (c : Ccb) : Ccb :=
  match exec i { ccb := c, pending := [], log := [] } with
  | .next t => t.ccb
  | .fault _ => c
  | .refused _ => c

/-- What an access answers, read off `exec`. -/
def answersOf (i : Instr) (c : Ccb) : List Response :=
  match exec i { ccb := c, pending := [], log := [] } with
  | .next t => t.log
  | .fault _ => []
  | .refused _ => []

/-- Everything `exec` can answer: BUS_ERROR faults, and every other instruction completes with an effect and an answer
that depend on the elements alone, leaving the port's other events as they were. -/
theorem exec_cases (i : Instr) :
    (∃ size w off data, i = .busError size w off data ∧ ∀ s, exec i s = .fault (.busError w size off)) ∨
    (∀ s, exec i s = .next
      { ccb := effectOf i s.ccb, pending := s.pending, log := s.log ++ answersOf i s.ccb }) := by
  cases i
  case busError size w off data => exact .inl ⟨size, w, off, data, rfl, fun _ => rfl⟩
  all_goals exact .inr fun _ => rfl

/-- An access that answers a next state: its elements, its port and its log. -/
theorem exec_next {i : Instr} {s t : State} (h : exec i s = .next t) :
    t.ccb = effectOf i s.ccb ∧ t.pending = s.pending ∧ t.log = s.log ++ answersOf i s.ccb := by
  rcases exec_cases i with ⟨_, _, _, _, _, hf⟩ | hn
  · rw [hf] at h; cases h
  · rw [hn, Host.Outcome.next.injEq] at h; subst h; exact ⟨rfl, rfl, rfl⟩

theorem completeWrite_eq (c : Ccb) (s : State) :
    completeWrite c s = .next { s with ccb := c, log := s.log ++ [.written] } := rfl

theorem completeRead_eq (v : Word) (s : State) :
    completeRead v s = .next { s with log := s.log ++ [.value v] } := rfl

/-- A completed write answers one next state. -/
@[simp] theorem completeWrite_eq_next (c : Ccb) (s t : State) :
    completeWrite c s = .next t ↔ t = { s with ccb := c, log := s.log ++ [.written] } := by
  rw [completeWrite_eq, Host.Outcome.next.injEq, eq_comm]

/-- A completed read answers one next state. -/
@[simp] theorem completeRead_eq_next (v : Word) (s t : State) :
    completeRead v s = .next t ↔ t = { s with log := s.log ++ [.value v] } := by
  rw [completeRead_eq, Host.Outcome.next.injEq, eq_comm]

/-- Every effect an access that completes can have on the elements, by instruction: what a proof over all instructions
cites instead of a case split on 49 constructors. -/
theorem exec_effects {i : Instr} {s t : State} (h : exec i s = .next t) :
    (drivesDecoder i = false ∧ feedsCrcgen i = false ∧ i ≠ .cmdSoftReset ∧ t.ccb = s.ccb) ∨
    (i = .cmdSoftReset ∧ t.ccb = Ccb.reset) ∨
    (i = .cmdCrcInit ∧ t.ccb = { s.ccb with crcState := 0xFFFFFFFF }) ∨
    (∃ data, i = .wrCrcData8 data ∧ t.ccb = { s.ccb with crcState := crcStep s.ccb.crcState (byteOperand data) }) ∨
    (∃ data, i = .wrCrcData32 data ∧ t.ccb = { s.ccb with crcState := crcFold s.ccb.crcState (wireBytes data) }) ∨
    (∃ data, i = .wrTagIn data ∧ t.ccb = { s.ccb with tagIn := data }) ∨
    (∃ data, i = .wrIrqEn data ∧ t.ccb = { s.ccb with irqEn := irqEnOperand data }) ∨
    (∃ data, i = .wrStatus data ∧ t.ccb = { s.ccb with
      cmdErr := if clearsCmdErr data then false else s.ccb.cmdErr
      ovf := if clearsOvf data then false else s.ccb.ovf }) ∨
    (∃ data, i = .cmdIllegal data ∧ t.ccb = rejectCommand s.ccb) ∨
    (i = .cmdDecStartFile ∧ t.ccb = decInit .sig true s.ccb) ∨
    (i = .cmdDecStartStream ∧ t.ccb = decInit .len false s.ccb) ∨
    (i = .cmdDecAbort ∧ t.ccb = decInit .idle false s.ccb) ∨
    (i = .cmdDecEnd ∧ t.ccb = endInput s.ccb) ∨
    (i = .cmdDecAck ∧ s.ccb.decPhase = .ready ∧ t.ccb = { s.ccb with decPhase := .len, decFpos := 0 }) ∨
    (i = .cmdDecAck ∧ s.ccb.decPhase ≠ .ready ∧ t.ccb = rejectCommand s.ccb) ∨
    (∃ data, i = .wrDecData8 data ∧ t.ccb = feedByte (byteOperand data) s.ccb) := by
  rw [(exec_next h).1]
  cases i
  case cmdDecAck =>
    by_cases hp : s.ccb.decPhase = .ready
    · simp [effectOf, completeWrite_eq, hp]
    · simp [effectOf, completeWrite_eq, hp]
  all_goals first
    | exact .inl ⟨rfl, rfl, nofun, rfl⟩
    | simp [effectOf, completeWrite_eq]

/-- A run whose first step answers a next state goes on from it. -/
theorem core_run_of_next {s t : State} (n : Nat) (h : step s = .next t) :
    Sys2Proof.core.run (n + 1) s = Sys2Proof.core.run n t := by
  have general (M : Host.Core) (x y : M.State) (hxy : M.step x = .next y) : M.run (n + 1) x = M.run n y := by
    show (match M.step x with | .next s' => M.run n s' | .fault r => .fault r | .refused r => .refused r) = _
    rw [hxy]
  exact general Sys2Proof.core s t h

/-- A run whose first step faults ends in that fault. -/
theorem core_run_of_fault {s : State} {r : Fault} (n : Nat) (h : step s = .fault r) :
    Sys2Proof.core.run (n + 1) s = .fault r := by
  have general (M : Host.Core) (x : M.State) (r : M.Fault) (hxr : M.step x = .fault r) :
      M.run (n + 1) x = .fault r := by
    show (match M.step x with | .next s' => M.run n s' | .fault r => .fault r | .refused r => .refused r) = _
    rw [hxr]
  exact general Sys2Proof.core s r h

@[simp] theorem execAll_nil (s : State) : execAll [] s = .next s := rfl

/-- A first access that completes hands its next state to the rest. -/
theorem execAll_cons_next {i : Instr} {is : List Instr} {s t : State} (h : exec i s = .next t) :
    execAll (i :: is) s = execAll is t := by
  simp only [execAll, h]

theorem execAll_append_next {is js : List Instr} {s t : State} (h : execAll is s = .next t) :
    execAll (is ++ js) s = execAll js t := by
  induction is generalizing s with
  | nil => simp only [execAll_nil, Host.Outcome.next.injEq] at h; rw [h, List.nil_append]
  | cons i is ih =>
    simp only [execAll, List.cons_append] at h ⊢
    split <;> rename_i heq <;> simp only [heq] at h
    · exact ih h
    · cases h
    · cases h

end Sys2Proof.Machine
end

