-- ==== Sys2Proof/Laws/Decoder.lean ====
section
/-! SUPPORT. The byte input by phase, what no byte and no END changes, and a list of bytes fed one after the other. -/

namespace Sys2Proof.Machine

/-- An accepted byte is counted and goes to its phase's step (R607). -/
theorem feedByte_sig {c : Ccb} (b : Byte) (h : c.decPhase = .sig) :
    feedByte b c = sigStep b { c with decCount := c.decCount + 1 } := by simp only [feedByte, h]

theorem feedByte_len {c : Ccb} (b : Byte) (h : c.decPhase = .len) :
    feedByte b c = lenStep b c.decCount { c with decCount := c.decCount + 1 } := by simp only [feedByte, h]

theorem feedByte_type {c : Ccb} (b : Byte) (h : c.decPhase = .type) :
    feedByte b c = typeStep b { c with decCount := c.decCount + 1 } := by simp only [feedByte, h]

theorem feedByte_payload {c : Ccb} (b : Byte) (h : c.decPhase = .payload) :
    feedByte b c = payloadStep b { c with decCount := c.decCount + 1 } := by simp only [feedByte, h]

theorem feedByte_crc {c : Ccb} (b : Byte) (h : c.decPhase = .crc) :
    feedByte b c = crcFieldStep b { c with decCount := c.decCount + 1 } := by simp only [feedByte, h]

/-- A byte outside the accepting phases is dropped (R607, R603). -/
theorem feedByte_dropped {c : Ccb} (b : Byte) (h : accepting c.decPhase = false) :
    feedByte b c = { c with ovf := true } := by
  cases hp : c.decPhase <;> simp_all [accepting, feedByte]

/-- The byte input by phase, in one statement: what a proof cites instead of unfolding `feedByte`. -/
theorem feedByte_cases (b : Byte) (c : Ccb) :
    (accepting c.decPhase = false ∧ feedByte b c = { c with ovf := true }) ∨
    (c.decPhase = .sig ∧ feedByte b c = sigStep b { c with decCount := c.decCount + 1 }) ∨
    (c.decPhase = .len ∧ feedByte b c = lenStep b c.decCount { c with decCount := c.decCount + 1 }) ∨
    (c.decPhase = .type ∧ feedByte b c = typeStep b { c with decCount := c.decCount + 1 }) ∨
    (c.decPhase = .payload ∧ feedByte b c = payloadStep b { c with decCount := c.decCount + 1 }) ∨
    (c.decPhase = .crc ∧ feedByte b c = crcFieldStep b { c with decCount := c.decCount + 1 }) := by
  cases hp : c.decPhase <;> simp [accepting, feedByte, hp]

/-- `SigStep` by outcome (R608). -/
theorem sigStep_cases (b : Byte) (c : Ccb) :
    (b ≠ sigByte c.decFpos ∧ sigStep b c = enterError .badSignature c) ∨
    (b = sigByte c.decFpos ∧ c.decFpos = 7 ∧ sigStep b c = { c with decPhase := .len, decFpos := 0 }) ∨
    (b = sigByte c.decFpos ∧ c.decFpos ≠ 7 ∧ sigStep b c = { c with decFpos := c.decFpos + 1 }) := by
  unfold sigStep
  split
  · exact .inl ⟨‹_›, rfl⟩
  split
  · exact .inr (.inl ⟨not_not.mp ‹_›, ‹_›, rfl⟩)
  · exact .inr (.inr ⟨not_not.mp ‹_›, ‹_›, rfl⟩)

/-- `LenStep` by field position (R609): the first byte of a chunk, the second or third, the fourth. -/
theorem lenStep_cases (b : Byte) (old : Word) (c : Ccb) :
    (c.decFpos = 0 ∧ lenStep b old c =
      { beginChunk old c with chLen := shiftIn 0 b, decFpos := c.decFpos + 1 }) ∨
    (c.decFpos ≠ 0 ∧ c.decFpos ≠ 3 ∧ lenStep b old c = { c with chLen := shiftIn c.chLen b, decFpos := c.decFpos + 1 }) ∨
    (c.decFpos = 3 ∧ lenStep b old c =
      { c with chLen := shiftIn c.chLen b, decPhase := .type, decFpos := 0 }) := by
  by_cases h : c.decFpos = 0
  · have h3 : c.decFpos ≠ 3 := by rw [h]; decide
    exact .inl ⟨h, by simp only [lenStep, if_pos h, advanceField, beginChunk, if_neg h3]⟩
  by_cases h3 : c.decFpos = 3
  · exact .inr (.inr ⟨h3, by simp only [lenStep, if_neg h, advanceField, if_pos h3]⟩)
  · exact .inr (.inl ⟨h, h3, by simp only [lenStep, if_neg h, advanceField, if_neg h3]⟩)

/-- What every type-tag byte does before the field position is looked at (R610). -/
def typeByte (b : Byte) (c : Ccb) : Ccb :=
  { c with
    chType := shiftIn c.chType b
    decTagBad := c.decTagBad || !isAlpha b
    decCrc := crcStep c.decCrc b }

/-- `TypeStep` by field position and length (R610). -/
theorem typeStep_cases (b : Byte) (c : Ccb) :
    (c.decFpos ≠ 3 ∧ typeStep b c = { typeByte b c with decFpos := c.decFpos + 1 }) ∨
    (c.decFpos = 3 ∧ c.chLen = 0 ∧ typeStep b c = { typeByte b c with decRemain := 0, decFpos := 0, decPhase := .crc }) ∨
    (c.decFpos = 3 ∧ c.chLen ≠ 0 ∧
      typeStep b c = { typeByte b c with decRemain := c.chLen, decFpos := 0, decPhase := .payload }) := by
  by_cases h3 : c.decFpos = 3
  · by_cases h0 : c.chLen = 0
    · exact .inr (.inl ⟨h3, h0, by simp only [typeStep, if_pos h3, if_pos h0, typeByte]; rw [h0]⟩)
    · exact .inr (.inr ⟨h3, h0, by simp only [typeStep, if_pos h3, if_neg h0, typeByte]⟩)
  · exact .inl ⟨h3, by simp only [typeStep, if_neg h3, typeByte]⟩

/-- What every payload byte does before the tests (R611). -/
def payloadByte (b : Byte) (c : Ccb) : Ccb :=
  { c with decCrc := crcStep c.decCrc b, decRemain := c.decRemain - 1 }

/-- `PayloadStep` by outcome (R611, R613). -/
theorem payloadStep_cases (b : Byte) (c : Ccb) :
    ((c.decTagBad = true ∧ c.chLen - (c.decRemain - 1) = 4) ∧
      payloadStep b c = enterError .invalidChunkType (payloadByte b c)) ∨
    (¬(c.decTagBad = true ∧ c.chLen - (c.decRemain - 1) = 4) ∧ c.decRemain - 1 = 0 ∧
      payloadStep b c = { payloadByte b c with decPhase := .crc, decFpos := 0 }) ∨
    (¬(c.decTagBad = true ∧ c.chLen - (c.decRemain - 1) = 4) ∧ c.decRemain - 1 ≠ 0 ∧
      payloadStep b c = payloadByte b c) := by
  by_cases hb : c.decTagBad = true ∧ c.chLen - (c.decRemain - 1) = 4
  · exact .inl ⟨hb, by simp only [payloadStep]; rw [if_pos hb]; rfl⟩
  by_cases h0 : c.decRemain - 1 = 0
  · exact .inr (.inl ⟨hb, h0, by simp only [payloadStep]; rw [if_neg hb, if_pos h0]; rfl⟩)
  · exact .inr (.inr ⟨hb, h0, by simp only [payloadStep]; rw [if_neg hb, if_neg h0]; rfl⟩)

/-- What every stored-CRC byte does before the tests (R612). -/
def crcFieldByte (b : Byte) (c : Ccb) : Ccb := { c with chCrcStored := shiftIn c.chCrcStored b }

/-- `CrcStep` by outcome (R612, R613). -/
theorem crcFieldStep_cases (b : Byte) (c : Ccb) :
    ((c.decTagBad = true ∧ c.chLen.toNat + (c.decFpos.toNat + 1) = 4) ∧
      crcFieldStep b c = enterError .invalidChunkType (crcFieldByte b c)) ∨
    (¬(c.decTagBad = true ∧ c.chLen.toNat + (c.decFpos.toNat + 1) = 4) ∧ c.decFpos ≠ 3 ∧
      crcFieldStep b c = { crcFieldByte b c with decFpos := c.decFpos + 1 }) ∨
    (¬(c.decTagBad = true ∧ c.chLen.toNat + (c.decFpos.toNat + 1) = 4) ∧ c.decFpos = 3 ∧
      shiftIn c.chCrcStored b = chCrcCalc c ∧
      crcFieldStep b c = { crcFieldByte b c with decPhase := .ready, decFpos := 0, chCount := c.chCount + 1 }) ∨
    (¬(c.decTagBad = true ∧ c.chLen.toNat + (c.decFpos.toNat + 1) = 4) ∧ c.decFpos = 3 ∧
      shiftIn c.chCrcStored b ≠ chCrcCalc c ∧
      crcFieldStep b c = enterError .crcMismatch (crcFieldByte b c)) := by
  have last (f : BitVec 3) : f.toNat + 1 = 4 ↔ f = 3 := by revert f; decide
  by_cases hb : c.decTagBad = true ∧ c.chLen.toNat + (c.decFpos.toNat + 1) = 4
  · exact .inl ⟨hb, by simp only [crcFieldStep]; rw [if_pos hb]; rfl⟩
  by_cases h3 : c.decFpos = 3
  · by_cases hm : shiftIn c.chCrcStored b = chCrcCalc c
    · refine .inr (.inr (.inl ⟨hb, h3, hm, ?_⟩))
      simp only [crcFieldStep]; rw [if_neg hb, if_pos ((last _).mpr h3)]; exact if_pos hm
    · refine .inr (.inr (.inr ⟨hb, h3, hm, ?_⟩))
      simp only [crcFieldStep]; rw [if_neg hb, if_pos ((last _).mpr h3)]; exact if_neg hm
  · refine .inr (.inl ⟨hb, h3, ?_⟩)
    simp only [crcFieldStep]; rw [if_neg hb, if_neg (mt (last _).mp h3)]; rfl

@[simp] theorem feedByte_crcState (b : Byte) (c : Ccb) : (feedByte b c).crcState = c.crcState := by
  rcases feedByte_cases b c with h | h | h | h | h | h <;>
    (rw [h.2]; try simp only [sigStep, lenStep, advanceField, typeStep, payloadStep, crcFieldStep]) <;>
    repeat' (first | rfl | split)

@[simp] theorem feedByte_tagIn (b : Byte) (c : Ccb) : (feedByte b c).tagIn = c.tagIn := by
  rcases feedByte_cases b c with h | h | h | h | h | h <;>
    (rw [h.2]; try simp only [sigStep, lenStep, advanceField, typeStep, payloadStep, crcFieldStep]) <;>
    repeat' (first | rfl | split)

@[simp] theorem feedByte_irqEn (b : Byte) (c : Ccb) : (feedByte b c).irqEn = c.irqEn := by
  rcases feedByte_cases b c with h | h | h | h | h | h <;>
    (rw [h.2]; try simp only [sigStep, lenStep, advanceField, typeStep, payloadStep, crcFieldStep]) <;>
    repeat' (first | rfl | split)

@[simp] theorem feedByte_cmdErr (b : Byte) (c : Ccb) : (feedByte b c).cmdErr = c.cmdErr := by
  rcases feedByte_cases b c with h | h | h | h | h | h <;>
    (rw [h.2]; try simp only [sigStep, lenStep, advanceField, typeStep, payloadStep, crcFieldStep]) <;>
    repeat' (first | rfl | split)

@[simp] theorem feedByte_decMode (b : Byte) (c : Ccb) : (feedByte b c).decMode = c.decMode := by
  rcases feedByte_cases b c with h | h | h | h | h | h <;>
    (rw [h.2]; try simp only [sigStep, lenStep, advanceField, typeStep, payloadStep, crcFieldStep]) <;>
    repeat' (first | rfl | split)

/-- OVF is set exactly by a dropped byte (R105, R607). -/
theorem feedByte_ovf (b : Byte) (c : Ccb) :
    (feedByte b c).ovf = if accepting c.decPhase then c.ovf else true := by
  rcases feedByte_cases b c with h | h | h | h | h | h <;> rw [h.2] <;>
    rw [h.1] <;> simp only [sigStep, lenStep, advanceField, typeStep, payloadStep, crcFieldStep] <;>
    repeat' (first | rfl | split)

/-- DEC_COUNT advances exactly on an accepted byte (R111, R607). -/
theorem feedByte_decCount (b : Byte) (c : Ccb) :
    (feedByte b c).decCount = if accepting c.decPhase then c.decCount + 1 else c.decCount := by
  rcases feedByte_cases b c with h | h | h | h | h | h <;> rw [h.2] <;>
    rw [h.1] <;> simp only [sigStep, lenStep, advanceField, typeStep, payloadStep, crcFieldStep] <;>
    repeat' (first | rfl | split)

@[simp] theorem endInput_crcState (c : Ccb) : (endInput c).crcState = c.crcState := by
  simp only [endInput, endInsideChunk]; repeat' (first | rfl | split)

@[simp] theorem endInput_tagIn (c : Ccb) : (endInput c).tagIn = c.tagIn := by
  simp only [endInput, endInsideChunk]; repeat' (first | rfl | split)

@[simp] theorem endInput_irqEn (c : Ccb) : (endInput c).irqEn = c.irqEn := by
  simp only [endInput, endInsideChunk]; repeat' (first | rfl | split)

@[simp] theorem endInput_ovf (c : Ccb) : (endInput c).ovf = c.ovf := by
  simp only [endInput, endInsideChunk]; repeat' (first | rfl | split)

@[simp] theorem endInput_decMode (c : Ccb) : (endInput c).decMode = c.decMode := by
  simp only [endInput, endInsideChunk]; repeat' (first | rfl | split)

@[simp] theorem endInput_decCount (c : Ccb) : (endInput c).decCount = c.decCount := by
  simp only [endInput, endInsideChunk]; repeat' (first | rfl | split)

@[simp] theorem endInput_decRemain (c : Ccb) : (endInput c).decRemain = c.decRemain := by
  simp only [endInput, endInsideChunk]; repeat' (first | rfl | split)

@[simp] theorem endInput_decCrc (c : Ccb) : (endInput c).decCrc = c.decCrc := by
  simp only [endInput, endInsideChunk]; repeat' (first | rfl | split)

@[simp] theorem endInput_chLen (c : Ccb) : (endInput c).chLen = c.chLen := by
  simp only [endInput, endInsideChunk]; repeat' (first | rfl | split)

@[simp] theorem endInput_chType (c : Ccb) : (endInput c).chType = c.chType := by
  simp only [endInput, endInsideChunk]; repeat' (first | rfl | split)

@[simp] theorem endInput_chCrcStored (c : Ccb) : (endInput c).chCrcStored = c.chCrcStored := by
  simp only [endInput, endInsideChunk]; repeat' (first | rfl | split)

@[simp] theorem endInput_chOffset (c : Ccb) : (endInput c).chOffset = c.chOffset := by
  simp only [endInput, endInsideChunk]; repeat' (first | rfl | split)

@[simp] theorem endInput_chCount (c : Ccb) : (endInput c).chCount = c.chCount := by
  simp only [endInput, endInsideChunk]; repeat' (first | rfl | split)

@[simp] theorem endInput_decTagBad (c : Ccb) : (endInput c).decTagBad = c.decTagBad := by
  simp only [endInput, endInsideChunk]; repeat' (first | rfl | split)

/-- END is rejected exactly outside the accepting phases (R616, R700). -/
theorem endInput_cmdErr (c : Ccb) : (endInput c).cmdErr = if accepting c.decPhase then c.cmdErr else true := by
  cases hp : c.decPhase <;> simp only [endInput, endInsideChunk, hp, accepting] <;> repeat' (first | rfl | split)

/-- The bytes of a list fed to the decoder in order. -/
def feedBytes (c : Ccb) (bs : List Byte) : Ccb := bs.foldl (fun c b => feedByte b c) c

@[simp] theorem feedBytes_nil (c : Ccb) : feedBytes c [] = c := rfl

@[simp] theorem feedBytes_cons (c : Ccb) (b : Byte) (bs : List Byte) :
    feedBytes c (b :: bs) = feedBytes (feedByte b c) bs := rfl

@[simp] theorem feedBytes_append (c : Ccb) (as bs : List Byte) :
    feedBytes c (as ++ bs) = feedBytes (feedBytes c as) bs := by
  simp only [feedBytes, List.foldl_append]

@[simp] theorem byteOperand_setWidth (b : Byte) : byteOperand (b.setWidth 32) = b := by
  apply BitVec.eq_of_getLsbD_eq
  intro i hi
  simp [byteOperand, BitVec.getLsbD_setWidth, hi]
  omega

/-- R607, R206: feeding a list of bytes by DEC_DATA8 writes completes, and is `feedBytes` on the elements. -/
theorem execAll_feed (bs : List Byte) (s : State) :
    ∃ t, execAll (feed bs) s = .next t ∧ t.ccb = feedBytes s.ccb bs ∧ t.pending = s.pending := by
  induction bs generalizing s with
  | nil => exact ⟨s, rfl, rfl, rfl⟩
  | cons b bs ih =>
    obtain ⟨t, ht, hc, hp⟩ := ih { s with ccb := feedByte b s.ccb, log := s.log ++ [.written] }
    refine ⟨t, ?_, hc, hp⟩
    rw [← ht]
    exact execAll_cons_next (by rw [exec_wrDecData8, byteOperand_setWidth, completeWrite_eq])

end Sys2Proof.Machine
end

