-- ==== Sys2Proof/Laws/PerInstr.lean ====
section
/-! SUPPORT. Per instruction: its encoding lies in its own row of the opcode table (R300, R305, R309). -/

namespace Sys2Proof.Laws.EncodesRow

/-- The encoding of a well-formed instruction fits the row of spec/opcode_table.json that has its mnemonic. -/
def Statement (i : Instr) : Prop :=
  i.wellFormed = true → ∃ r ∈ opcodeTable, r.mnemonic = i.mnemonic ∧ r.fits (encode i) = true

/-- The mask of a row that fixes every bit but DATA keeps the other three fields. -/
theorem mask_descriptor (size : BitVec 2) (w : BitVec 1) (off : BitVec 7) (data : Word) :
    descriptor size w off data &&& 0x3FF00000000 = descriptor size w off 0 := by
  have hm : (0x3FF00000000 : Descriptor) = descriptor 3 1 0x7F 0 := by decide
  rw [hm]
  apply BitVec.eq_of_getLsbD_eq
  intro i hi
  have h2 : ∀ n, n < 2 → (3 : BitVec 2).getLsbD n = true := by decide
  have h7 : ∀ n, n < 7 → (0x7F : BitVec 7).getLsbD n = true := by decide
  have h1 : ∀ n, n < 1 → (1 : BitVec 1).getLsbD n = true := by decide
  simp only [BitVec.getLsbD_and, getLsbD_descriptor]
  split
  · simp
  split
  · rw [h7 _ ‹_›, Bool.and_true]
  split
  · rw [h1 _ ‹_›, Bool.and_true]
  · rw [h2 _ (by omega), Bool.and_true]

/-- A row that fixes every bit but DATA fits exactly by the other three fields. -/
theorem fits_data (m : String) (p : Descriptor) (f : Bool) (size : BitVec 2) (w : BitVec 1) (off : BitVec 7) (data : Word)
    (h : descriptor size w off 0 = p) : (Row.mk m p 0x3FF00000000 f).fits (descriptor size w off data) = true := by
  rw [Row.fits, beq_iff_eq, mask_descriptor, h]

theorem cmdNop : Statement .cmdNop :=
  fun _ => ⟨⟨"CMD_NOP", 0x28000000000, 0x3FFFFFFFFFF, false⟩, by decide, rfl, by decide⟩
theorem cmdCrcInit : Statement .cmdCrcInit :=
  fun _ => ⟨⟨"CMD_CRC_INIT", 0x28000000001, 0x3FFFFFFFFFF, false⟩, by decide, rfl, by decide⟩
theorem cmdDecStartFile : Statement .cmdDecStartFile :=
  fun _ => ⟨⟨"CMD_DEC_START_FILE", 0x28000000010, 0x3FFFFFFFFFF, false⟩, by decide, rfl, by decide⟩
theorem cmdDecStartStream : Statement .cmdDecStartStream :=
  fun _ => ⟨⟨"CMD_DEC_START_STREAM", 0x28000000011, 0x3FFFFFFFFFF, false⟩, by decide, rfl, by decide⟩
theorem cmdDecEnd : Statement .cmdDecEnd :=
  fun _ => ⟨⟨"CMD_DEC_END", 0x28000000012, 0x3FFFFFFFFFF, false⟩, by decide, rfl, by decide⟩
theorem cmdDecAck : Statement .cmdDecAck :=
  fun _ => ⟨⟨"CMD_DEC_ACK", 0x28000000013, 0x3FFFFFFFFFF, false⟩, by decide, rfl, by decide⟩
theorem cmdDecAbort : Statement .cmdDecAbort :=
  fun _ => ⟨⟨"CMD_DEC_ABORT", 0x28000000014, 0x3FFFFFFFFFF, false⟩, by decide, rfl, by decide⟩
theorem cmdSoftReset : Statement .cmdSoftReset :=
  fun _ => ⟨⟨"CMD_SOFT_RESET", 0x280000000FF, 0x3FFFFFFFFFF, false⟩, by decide, rfl, by decide⟩
theorem cmdIllegal (data : Word) : Statement (.cmdIllegal data) :=
  fun _ => ⟨⟨"CMD_ILLEGAL", 0x28000000000, 0x3FF00000000, true⟩, by decide, rfl, fits_data _ _ _ _ _ _ _ (by decide)⟩
theorem wrStatus (data : Word) : Statement (.wrStatus data) :=
  fun _ => ⟨⟨"WR_STATUS", 0x28400000000, 0x3FF00000000, false⟩, by decide, rfl, fits_data _ _ _ _ _ _ _ (by decide)⟩
theorem wrIrqEn (data : Word) : Statement (.wrIrqEn data) :=
  fun _ => ⟨⟨"WR_IRQ_EN", 0x28800000000, 0x3FF00000000, false⟩, by decide, rfl, fits_data _ _ _ _ _ _ _ (by decide)⟩
theorem wrCrcData8 (data : Word) : Statement (.wrCrcData8 data) :=
  fun _ => ⟨⟨"WR_CRC_DATA8", 0x28C00000000, 0x3FF00000000, false⟩, by decide, rfl, fits_data _ _ _ _ _ _ _ (by decide)⟩
theorem wrCrcData32 (data : Word) : Statement (.wrCrcData32 data) :=
  fun _ => ⟨⟨"WR_CRC_DATA32", 0x29000000000, 0x3FF00000000, false⟩, by decide, rfl, fits_data _ _ _ _ _ _ _ (by decide)⟩
theorem wrTagIn (data : Word) : Statement (.wrTagIn data) :=
  fun _ => ⟨⟨"WR_TAG_IN", 0x29C00000000, 0x3FF00000000, false⟩, by decide, rfl, fits_data _ _ _ _ _ _ _ (by decide)⟩
theorem wrDecData8 (data : Word) : Statement (.wrDecData8 data) :=
  fun _ => ⟨⟨"WR_DEC_DATA8", 0x2A400000000, 0x3FF00000000, false⟩, by decide, rfl, fits_data _ _ _ _ _ _ _ (by decide)⟩
theorem wrRoCrcState (data : Word) : Statement (.wrRoCrcState data) :=
  fun _ => ⟨⟨"WR_RO_CRC_STATE", 0x29400000000, 0x3FF00000000, false⟩, by decide, rfl, fits_data _ _ _ _ _ _ _ (by decide)⟩
theorem wrRoCrcResult (data : Word) : Statement (.wrRoCrcResult data) :=
  fun _ => ⟨⟨"WR_RO_CRC_RESULT", 0x29800000000, 0x3FF00000000, false⟩, by decide, rfl, fits_data _ _ _ _ _ _ _ (by decide)⟩
theorem wrRoTagFlags (data : Word) : Statement (.wrRoTagFlags data) :=
  fun _ => ⟨⟨"WR_RO_TAG_FLAGS", 0x2A000000000, 0x3FF00000000, false⟩, by decide, rfl, fits_data _ _ _ _ _ _ _ (by decide)⟩
theorem wrRoDecState (data : Word) : Statement (.wrRoDecState data) :=
  fun _ => ⟨⟨"WR_RO_DEC_STATE", 0x2A800000000, 0x3FF00000000, false⟩, by decide, rfl, fits_data _ _ _ _ _ _ _ (by decide)⟩
theorem wrRoDecCount (data : Word) : Statement (.wrRoDecCount data) :=
  fun _ => ⟨⟨"WR_RO_DEC_COUNT", 0x2AC00000000, 0x3FF00000000, false⟩, by decide, rfl, fits_data _ _ _ _ _ _ _ (by decide)⟩
theorem wrRoDecRemain (data : Word) : Statement (.wrRoDecRemain data) :=
  fun _ => ⟨⟨"WR_RO_DEC_REMAIN", 0x2B000000000, 0x3FF00000000, false⟩, by decide, rfl, fits_data _ _ _ _ _ _ _ (by decide)⟩
theorem wrRoChLen (data : Word) : Statement (.wrRoChLen data) :=
  fun _ => ⟨⟨"WR_RO_CH_LEN", 0x2B400000000, 0x3FF00000000, false⟩, by decide, rfl, fits_data _ _ _ _ _ _ _ (by decide)⟩
theorem wrRoChType (data : Word) : Statement (.wrRoChType data) :=
  fun _ => ⟨⟨"WR_RO_CH_TYPE", 0x2B800000000, 0x3FF00000000, false⟩, by decide, rfl, fits_data _ _ _ _ _ _ _ (by decide)⟩
theorem wrRoChFlags (data : Word) : Statement (.wrRoChFlags data) :=
  fun _ => ⟨⟨"WR_RO_CH_FLAGS", 0x2BC00000000, 0x3FF00000000, false⟩, by decide, rfl, fits_data _ _ _ _ _ _ _ (by decide)⟩
theorem wrRoChCrcStored (data : Word) : Statement (.wrRoChCrcStored data) :=
  fun _ => ⟨⟨"WR_RO_CH_CRC_STORED", 0x2C000000000, 0x3FF00000000, false⟩, by decide, rfl, fits_data _ _ _ _ _ _ _ (by decide)⟩
theorem wrRoChCrcCalc (data : Word) : Statement (.wrRoChCrcCalc data) :=
  fun _ => ⟨⟨"WR_RO_CH_CRC_CALC", 0x2C400000000, 0x3FF00000000, false⟩, by decide, rfl, fits_data _ _ _ _ _ _ _ (by decide)⟩
theorem wrRoChOffset (data : Word) : Statement (.wrRoChOffset data) :=
  fun _ => ⟨⟨"WR_RO_CH_OFFSET", 0x2C800000000, 0x3FF00000000, false⟩, by decide, rfl, fits_data _ _ _ _ _ _ _ (by decide)⟩
theorem wrRoChCount (data : Word) : Statement (.wrRoChCount data) :=
  fun _ => ⟨⟨"WR_RO_CH_COUNT", 0x2CC00000000, 0x3FF00000000, false⟩, by decide, rfl, fits_data _ _ _ _ _ _ _ (by decide)⟩
theorem rdStatus : Statement .rdStatus :=
  fun _ => ⟨⟨"RD_STATUS", 0x20400000000, 0x3FF00000000, false⟩, by decide, rfl, by decide⟩
theorem rdIrqEn : Statement .rdIrqEn :=
  fun _ => ⟨⟨"RD_IRQ_EN", 0x20800000000, 0x3FF00000000, false⟩, by decide, rfl, by decide⟩
theorem rdCrcState : Statement .rdCrcState :=
  fun _ => ⟨⟨"RD_CRC_STATE", 0x21400000000, 0x3FF00000000, false⟩, by decide, rfl, by decide⟩
theorem rdCrcResult : Statement .rdCrcResult :=
  fun _ => ⟨⟨"RD_CRC_RESULT", 0x21800000000, 0x3FF00000000, false⟩, by decide, rfl, by decide⟩
theorem rdTagIn : Statement .rdTagIn :=
  fun _ => ⟨⟨"RD_TAG_IN", 0x21C00000000, 0x3FF00000000, false⟩, by decide, rfl, by decide⟩
theorem rdTagFlags : Statement .rdTagFlags :=
  fun _ => ⟨⟨"RD_TAG_FLAGS", 0x22000000000, 0x3FF00000000, false⟩, by decide, rfl, by decide⟩
theorem rdDecState : Statement .rdDecState :=
  fun _ => ⟨⟨"RD_DEC_STATE", 0x22800000000, 0x3FF00000000, false⟩, by decide, rfl, by decide⟩
theorem rdDecCount : Statement .rdDecCount :=
  fun _ => ⟨⟨"RD_DEC_COUNT", 0x22C00000000, 0x3FF00000000, false⟩, by decide, rfl, by decide⟩
theorem rdDecRemain : Statement .rdDecRemain :=
  fun _ => ⟨⟨"RD_DEC_REMAIN", 0x23000000000, 0x3FF00000000, false⟩, by decide, rfl, by decide⟩
theorem rdChLen : Statement .rdChLen :=
  fun _ => ⟨⟨"RD_CH_LEN", 0x23400000000, 0x3FF00000000, false⟩, by decide, rfl, by decide⟩
theorem rdChType : Statement .rdChType :=
  fun _ => ⟨⟨"RD_CH_TYPE", 0x23800000000, 0x3FF00000000, false⟩, by decide, rfl, by decide⟩
theorem rdChFlags : Statement .rdChFlags :=
  fun _ => ⟨⟨"RD_CH_FLAGS", 0x23C00000000, 0x3FF00000000, false⟩, by decide, rfl, by decide⟩
theorem rdChCrcStored : Statement .rdChCrcStored :=
  fun _ => ⟨⟨"RD_CH_CRC_STORED", 0x24000000000, 0x3FF00000000, false⟩, by decide, rfl, by decide⟩
theorem rdChCrcCalc : Statement .rdChCrcCalc :=
  fun _ => ⟨⟨"RD_CH_CRC_CALC", 0x24400000000, 0x3FF00000000, false⟩, by decide, rfl, by decide⟩
theorem rdChOffset : Statement .rdChOffset :=
  fun _ => ⟨⟨"RD_CH_OFFSET", 0x24800000000, 0x3FF00000000, false⟩, by decide, rfl, by decide⟩
theorem rdChCount : Statement .rdChCount :=
  fun _ => ⟨⟨"RD_CH_COUNT", 0x24C00000000, 0x3FF00000000, false⟩, by decide, rfl, by decide⟩
theorem rdWoCmd : Statement .rdWoCmd :=
  fun _ => ⟨⟨"RD_WO_CMD", 0x20000000000, 0x3FF00000000, false⟩, by decide, rfl, by decide⟩
theorem rdWoCrcData8 : Statement .rdWoCrcData8 :=
  fun _ => ⟨⟨"RD_WO_CRC_DATA8", 0x20C00000000, 0x3FF00000000, false⟩, by decide, rfl, by decide⟩
theorem rdWoCrcData32 : Statement .rdWoCrcData32 :=
  fun _ => ⟨⟨"RD_WO_CRC_DATA32", 0x21000000000, 0x3FF00000000, false⟩, by decide, rfl, by decide⟩
theorem rdWoDecData8 : Statement .rdWoDecData8 :=
  fun _ => ⟨⟨"RD_WO_DEC_DATA8", 0x22400000000, 0x3FF00000000, false⟩, by decide, rfl, by decide⟩
theorem busError (size : BitVec 2) (w : BitVec 1) (off : BitVec 7) (data : Word) : Statement (.busError size w off data) :=
  fun _ => ⟨⟨"BUS_ERROR", 0x00000000000, 0x00000000000, true⟩, by decide, rfl, by simp [Row.fits]⟩

end Sys2Proof.Laws.EncodesRow
end

