-- ==== Sys2Proof/Tests/Slice0.lean ====
section
/-! SUPPORT. Tests: ill-formed terms are refused, written-out descriptors decode, single accesses against 95_test_vectors.md,
and witnesses for the hypotheses of the statements. Expected values come from the spec, not from the model. -/

namespace Sys2Proof.Tests

open Sys2Proof.Machine

/-- The machine with these elements and nothing at its port. -/
def machine (c : Ccb) : State := { ccb := c, pending := [], log := [] }

/-- The reset elements with the decoder in a phase. -/
def inPhase (p : Phase) : Ccb := { Ccb.reset with decPhase := p }

/-- The elements after one access, if it completes. -/
def after (i : Instr) (c : Ccb) : Option Ccb :=
  match exec i (machine c) with
  | .next t => some t.ccb
  | .fault _ => none
  | .refused _ => none

/-- The value a read gives. -/
def readValue (i : Instr) (c : Ccb) : Option Word :=
  match exec i (machine c) with
  | .next t => match t.log with
    | [.value v] => some v
    | _ => none
  | .fault _ => none
  | .refused _ => none

/-- The fault of an access. -/
def faultOf (i : Instr) (c : Ccb) : Option Fault :=
  match exec i (machine c) with
  | .fault f => some f
  | .next _ => none
  | .refused _ => none

/-! ### WellFormed: each check refuses a term (R305, R306, R710) -/

theorem test_illegal_of_a_command_is_refused : (Instr.cmdIllegal 0x10).wellFormed = false := by decide
theorem test_illegal_of_soft_reset_is_refused : (Instr.cmdIllegal 0xFF).wellFormed = false := by decide
theorem test_bus_error_of_a_register_is_refused : (Instr.busError 0b10 1 0x4C 0).wellFormed = false := by decide
theorem test_bus_error_by_size_is_accepted : (Instr.busError 0b11 0 0x04 0).wellFormed = true := by decide
theorem test_bus_error_by_alignment_is_accepted : (Instr.busError 0b10 0 0x02 0).wellFormed = true := by decide
theorem test_bus_error_by_offset_is_accepted : (Instr.busError 0b10 0 0x50 0).wellFormed = true := by decide
theorem test_illegal_by_rsvd_is_accepted : (Instr.cmdIllegal 0x80000010).wellFormed = true := by decide

/-! ### Decode: every constructor from a descriptor written out from R300, R124 and R305
(SIZE in bits 41:40, W in bit 39, OFF in bits 38:32, DATA in bits 31:0) -/

theorem test_decode_commands :
    ([0x28000000000, 0x28000000001, 0x28000000010, 0x28000000011, 0x28000000012, 0x28000000013, 0x28000000014,
      0x280000000FF, 0x28000000002, 0x28000000100] : List Descriptor).map decode =
    [.cmdNop, .cmdCrcInit, .cmdDecStartFile, .cmdDecStartStream, .cmdDecEnd, .cmdDecAck, .cmdDecAbort,
      .cmdSoftReset, .cmdIllegal 0x02, .cmdIllegal 0x100] := by decide

theorem test_decode_writes :
    ([0x28400000300, 0x28800000307, 0x28CFFFFFF61, 0x29052755374, 0x29C52757374, 0x2A400000089] :
      List Descriptor).map decode =
    [.wrStatus 0x300, .wrIrqEn 0x307, .wrCrcData8 0xFFFFFF61, .wrCrcData32 0x52755374, .wrTagIn 0x52757374,
      .wrDecData8 0x89] := by decide

theorem test_decode_writes_of_read_only :
    ([0x29400000001, 0x29800000002, 0x2A000000003, 0x2A8FFFFFFFF, 0x2AC00000004, 0x2B000000005, 0x2B400000006,
      0x2B800000007, 0x2BC00000008, 0x2C000000009, 0x2C40000000A, 0x2C80000000B, 0x2CC00000005] :
      List Descriptor).map decode =
    [.wrRoCrcState 1, .wrRoCrcResult 2, .wrRoTagFlags 3, .wrRoDecState 0xFFFFFFFF, .wrRoDecCount 4,
      .wrRoDecRemain 5, .wrRoChLen 6, .wrRoChType 7, .wrRoChFlags 8, .wrRoChCrcStored 9, .wrRoChCrcCalc 10,
      .wrRoChOffset 11, .wrRoChCount 5] := by decide

theorem test_decode_reads :
    ([0x20400000000, 0x20800000000, 0x21400000000, 0x21800000000, 0x21C00000000, 0x22000000000, 0x22800000000,
      0x22C00000000, 0x23000000000, 0x23400000000, 0x23800000000, 0x23C00000000, 0x24000000000, 0x24400000000,
      0x24800000000, 0x24C00000000] : List Descriptor).map decode =
    [.rdStatus, .rdIrqEn, .rdCrcState, .rdCrcResult, .rdTagIn, .rdTagFlags, .rdDecState, .rdDecCount, .rdDecRemain,
      .rdChLen, .rdChType, .rdChFlags, .rdChCrcStored, .rdChCrcCalc, .rdChOffset, .rdChCount] := by decide

/-- R303: the DATA field of a read is ignored. -/
theorem test_decode_reads_of_write_only :
    ([0x20000000000, 0x20C00000000, 0x21000000000, 0x22400000089] : List Descriptor).map decode =
    [.rdWoCmd, .rdWoCrcData8, .rdWoCrcData32, .rdWoDecData8] := by decide

/-- T-BUS-1 to T-BUS-9. -/
theorem test_decode_bus_errors :
    ([0x00400000000, 0x10400000000, 0x30400000000, 0x0A400000089, 0x20200000000, 0x2A500000010, 0x25000000000,
      0x2FC00000000, 0x27F00000000] : List Descriptor).map decode =
    [.busError 0b00 0 0x04 0, .busError 0b01 0 0x04 0, .busError 0b11 0 0x04 0, .busError 0b00 1 0x24 0x89,
      .busError 0b10 0 0x02 0, .busError 0b10 1 0x25 0x10, .busError 0b10 0 0x50 0, .busError 0b10 1 0x7C 0,
      .busError 0b10 0 0x7F 0] := by decide

/-- A number of more than 42 bits is no descriptor. -/
theorem test_decode_refuses_a_long_number :
    decodeNumber 0x428000000000 = .error .notADescriptor ∧ decodeTableWord 42 0x280000000FF = some .cmdSoftReset ∧
    decodeTableWord 48 0x428000000000 = none := by decide

/-! ### Control unit: 95_test_vectors.md section 2.4 -/

theorem test_nop : (after .cmdNop Ccb.reset).map statusWord = some 0 := by decide  -- T-CTL-1
theorem test_illegal_sets_cmd_err : (after (.cmdIllegal 0x100) Ccb.reset).map statusWord = some 0x100 := by decide  -- T-CTL-2

/-- T-CTL-6: a START_FILE opcode with RSVD != 0 starts nothing. -/
theorem test_illegal_does_not_start : (after (decode 0x28080000010) Ccb.reset).map decStateWord = some 0 := by decide

theorem test_status_read : readValue .rdStatus { inPhase .error with decErr := .crcMismatch, ovf := true } =
    some 0x254 := by decide  -- T-DEC-26
theorem test_status_write_clears : (after (.wrStatus 0x100) { Ccb.reset with cmdErr := true }).map statusWord =
    some 0 := by decide  -- T-CTL-7
theorem test_status_write_keeps : (after (.wrStatus 0xFF) { Ccb.reset with cmdErr := true }).map statusWord =
    some 0x100 := by decide  -- T-CTL-8
theorem test_irq_en_write : (after (.wrIrqEn 0xFFFFFFFF) Ccb.reset).map (·.irqEn) = some 0x307 := by decide  -- T-CTL-10
theorem test_irq_en_read : readValue .rdIrqEn { Ccb.reset with irqEn := 0x307 } = some 0x307 := by decide  -- T-CTL-10
theorem test_enable_raises_irq : (after (.wrIrqEn 0x100) { Ccb.reset with cmdErr := true }).map irq =
    some true := by decide  -- T-CTL-11
theorem test_abort_lowers_irq : (after .cmdDecAbort { inPhase .done with irqEn := 2 }).map irq =
    some false := by decide  -- T-CTL-12
theorem test_soft_reset : after .cmdSoftReset
      { inPhase .sig with decMode := true, irqEn := 7, tagIn := 0x41414141, crcState := 0x174841BC, cmdErr := true } =
    some Ccb.reset := by decide  -- T-CTL-14

/-- T-CTL-RD-…: write-only registers read 0, and no byte is fed. -/
theorem test_write_only_reads :
    ([.rdWoCmd, .rdWoCrcData8, .rdWoCrcData32, .rdWoDecData8] : List Instr).map
      (fun i => (readValue i (inPhase .len), (after i (inPhase .len)).map (·.decCount))) =
    List.replicate 4 (some 0, some 0) := by decide

/-- T-CTL-13, R709: writes of read-only registers change nothing. -/
theorem test_read_only_writes :
    (([.wrRoCrcState 0, .wrRoCrcResult 0, .wrRoTagFlags 1, .wrRoDecState 0xFFFFFFFF, .wrRoDecCount 1, .wrRoDecRemain 1,
      .wrRoChLen 1, .wrRoChType 1, .wrRoChFlags 1, .wrRoChCrcStored 1, .wrRoChCrcCalc 1, .wrRoChOffset 1,
      .wrRoChCount 5] : List Instr).all fun i => after i Ccb.reset == some Ccb.reset) = true := by decide

theorem test_bus_error_faults : faultOf (decode 0x0A400000089) (inPhase .len) =
    some (.busError 1 0b00 0x24) := by decide  -- T-BUS-4

/-! ### Type-tag checker: section 2.2 -/

theorem test_tag_in_write : (after (.wrTagIn 0x52755374) Ccb.reset).map (·.tagIn) = some 0x52755374 := by decide
theorem test_tag_in_read : readValue .rdTagIn { Ccb.reset with tagIn := 0x52755374 } = some 0x52755374 := by decide
theorem test_tag_flags_RuSt : readValue .rdTagFlags { Ccb.reset with tagIn := 0x52755374 } = some 0x3B := by decide  -- T-TAG-1
theorem test_tag_flags_Ru1t : readValue .rdTagFlags { Ccb.reset with tagIn := 0x52753174 } = some 0x12 := by decide  -- T-TAG-3
theorem test_ch_flags_Rust : readValue .rdChFlags { Ccb.reset with chType := 0x52757374 } = some 0x13 := by decide  -- T-DEC-23

/-! ### CRC-32 generator: section 2.1 -/

theorem test_crc_init : (after .cmdCrcInit { Ccb.reset with crcState := 0x174841BC }).map (·.crcState) =
    some 0xFFFFFFFF := by decide  -- T-CRC-17
theorem test_crc_data8_ignores_upper_bits : (after (.wrCrcData8 0xFFFFFF61) Ccb.reset).map (·.crcState) =
    some 0x174841BC := by decide  -- T-CRC-6
theorem test_crc_data32 : (after (.wrCrcData32 0x52755374) Ccb.reset).map (·.crcState) =
    some 0x2B7BF6C3 := by decide +kernel  -- T-CRC-7
theorem test_crc_data32_zeros : (after (.wrCrcData32 0) Ccb.reset).map (·.crcState) = some 0xDEBB20E3 := by decide +kernel  -- T-CRC-10
theorem test_crc_state_read : readValue .rdCrcState { Ccb.reset with crcState := 0x340BC6D9 } =
    some 0x340BC6D9 := by decide  -- T-CRC-3
theorem test_crc_result_read : readValue .rdCrcResult { Ccb.reset with crcState := 0x340BC6D9 } =
    some 0xCBF43926 := by decide  -- T-CRC-3

/-! ### Chunk decoder: section 2.3, each the last access of its row -/

theorem test_start_file : (after .cmdDecStartFile { inPhase .type with decFpos := 2, decCount := 6 }).map decStateWord =
    some 0x11 := by decide  -- T-DEC-34
theorem test_start_stream : (after .cmdDecStartStream { inPhase .sig with decMode := true, decFpos := 1 }).map decStateWord =
    some 0x02 := by decide  -- T-DEC-38
theorem test_start_keeps_ovf : (after .cmdDecStartStream { inPhase .ready with ovf := true }).map statusWord =
    some 0x200 := by decide  -- T-DEC-39
theorem test_abort : (after .cmdDecAbort { inPhase .error with decErr := .crcMismatch }).map statusWord =
    some 0 := by decide  -- T-DEC-35
theorem test_ack : (after .cmdDecAck { inPhase .ready with chType := 0x49454E44 }).map
    (fun c => (decStateWord c, c.chType)) = some (0x02, 0x49454E44) := by decide  -- T-DEC-36
theorem test_ack_in_idle : (after .cmdDecAck Ccb.reset).map statusWord = some 0x100 := by decide  -- T-DEC-31

/-- T-DEC-28: Length 0xFFFFFFFF and 4 payload bytes, so k = 12. -/
theorem test_end_truncated :
    (after .cmdDecEnd { inPhase .payload with chLen := 0xFFFFFFFF, decRemain := 0xFFFFFFFB }).map statusWord =
    some 0x44 := by decide

/-- T-DEC-27: k = 9. -/
theorem test_end_too_short :
    (after .cmdDecEnd { inPhase .payload with chLen := 0xFFFFFFFF, decRemain := 0xFFFFFFFE }).map statusWord =
    some 0x24 := by decide

/-- T-DEC-5: a wrong eighth signature byte. -/
theorem test_byte_wrong_signature :
    (after (.wrDecData8 0x0B) { inPhase .sig with decMode := true, decFpos := 7, decCount := 7 }).map
      (fun c => (statusWord c, decStateWord c)) = some (0x14, 0x18) := by decide

/-- T-DEC-22: the 12th byte of a chunk with a bad tag and a wrong CRC: INVALID_CHUNK_TYPE comes first. -/
theorem test_byte_bad_tag_before_crc :
    (after (.wrDecData8 0xE6) { inPhase .crc with
        decFpos := 3, decTagBad := true, chType := 0x52753174, chCrcStored := 0x834F00, decCrc := 0x7CB0FFE6 }).map
      (fun c => (statusWord c, c.chCrcStored)) = some (0x34, 0x834F00E6) := by decide

theorem test_dec_state_read : readValue .rdDecState { inPhase .crc with decTagBad := true } = some 0x25 := by decide  -- T-DEC-18
theorem test_dec_state_read_fpos : readValue .rdDecState { inPhase .len with decFpos := 1 } = some 0x102 := by decide  -- T-DEC-37
theorem test_dec_count_read : readValue .rdDecCount { Ccb.reset with decCount := 0x22 } = some 0x22 := by decide  -- P2
theorem test_dec_remain_read : readValue .rdDecRemain { Ccb.reset with decRemain := 0xFFFFFFFB } =
    some 0xFFFFFFFB := by decide  -- T-DEC-28
theorem test_ch_len_read : readValue .rdChLen { Ccb.reset with chLen := 2 } = some 2 := by decide  -- P2
theorem test_ch_type_read : readValue .rdChType { Ccb.reset with chType := 0x52755374 } = some 0x52755374 := by decide  -- P2
theorem test_ch_crc_stored_read : readValue .rdChCrcStored { Ccb.reset with chCrcStored := 0xD2BC3F73 } =
    some 0xD2BC3F73 := by decide  -- P2
theorem test_ch_crc_calc_read : readValue .rdChCrcCalc { Ccb.reset with decCrc := 0x51BD9F7D } =
    some 0xAE426082 := by decide  -- P1
theorem test_ch_offset_read : readValue .rdChOffset { Ccb.reset with chOffset := 0x16 } = some 0x16 := by decide  -- P2
theorem test_ch_count_read : readValue .rdChCount { Ccb.reset with chCount := 2 } = some 2 := by decide  -- P2

/-! ### The host's word interface -/

/-- The first step after reset runs the placed access. -/
theorem test_placed_access_runs : step (State.reset.withFetchWord 42 0x29C52755374) =
    .next { ccb := { Ccb.reset with tagIn := 0x52755374 }, pending := [], log := [.written] } := by rfl

/-! ### Witnesses for the hypotheses of the statements -/

theorem witness_DecodeOfEncodeIsIdentity :
    ((Instr.cmdIllegal 0xFE).wellFormed = true ∧ (Instr.cmdIllegal 0x00000100).wellFormed = true) ∧
    (Instr.busError 0b10 1 0x50 0xFFFFFFFF).wellFormed = true ∧ (Instr.wrDecData8 0xFFFFFFFF).wellFormed = true := by
  decide

theorem witness_EncodeOfDecodeIsIdentity :
    isRead (decode 0x2A400000089) = false ∧ isRead (decode 0x25000000000) = false ∧
    isRead (decode 0x20400000000) = true ∧ isRead (decode 0x224FFFFFFFF) = true := by decide

theorem witness_DecodeSelectsTheOneTableRow :
    (⟨"RD_CH_COUNT", 0x24C00000000, 0x3FF00000000, false⟩ : Row) ∈ opcodeTable ∧
    (decode 0x24C00000000).mnemonic = "RD_CH_COUNT" ∧ (decode 0x25000000000).mnemonic = "BUS_ERROR" ∧
    (decode 0x24D00000000).mnemonic = "BUS_ERROR" ∧ (decode 0x280000000FE).mnemonic = "CMD_ILLEGAL" := by decide

/-- An ASCII text, to the last ASCII character. -/
theorem witness_AssemblerLinesExpandAsListed : ∀ ch ∈ ['\x00', 'h', 'i', '\x7f'], ch.toNat < 0x80 := by
  simp

theorem witness_BusRoutesExactlyTheWindow :
    route { size := 0b10, write := 0, addr := Config.ccbBase, data := 7 } = some (descriptor 0b10 0 0x00 0) ∧
    route { size := 0b00, write := 1, addr := Config.ccbBase + 0x7F, data := 7 } = some (descriptor 0b00 1 0x7F 7) ∧
    route { size := 0b10, write := 1, addr := Config.ccbBase + 0x80, data := 7 } = none := by
  simp [route, inWindow, busOffset]

theorem witness_StepServesTheOldestEvent :
    (∃ s : State, s.pending = [.access 0x28000000013, .reset] ∧ decode 0x28000000013 = .cmdDecAck) ∧
    (∃ s : State, s.pending = []) ∧ (∃ s : State, s.pending = [.reset, .access 0x28000000013]) :=
  ⟨⟨{ machine Ccb.reset with pending := _ }, rfl, by decide⟩, ⟨machine Ccb.reset, rfl⟩,
    ⟨{ machine Ccb.reset with pending := _ }, rfl⟩⟩

theorem witness_AccessesComposeInOrder :
    ∀ i ∈ [Instr.cmdIllegal 0x02, .wrCrcData8 0x61, .busError 0b10 0 0x50 0, .rdCrcResult], i.wellFormed = true := by
  decide

theorem witness_EachAccessRecordsOneOutcome :
    (∃ t, exec .rdWoCmd (machine Ccb.reset) = .next t ∧ isRead .rdWoCmd = true) ∧
    (∃ t, exec .cmdNop (machine Ccb.reset) = .next t ∧ isRead .cmdNop = false) :=
  ⟨⟨_, rfl, rfl⟩, ⟨_, rfl, rfl⟩⟩

theorem witness_IllegalCommandSetsOnlyCmdErr :
    (([0x00000100, 0x80000010, 0xFFFFFFFF, 0x02, 0x0F, 0x15, 0xFE] : List Word).all fun data => decide
      (data.extractLsb' 8 24 ≠ 0 ∨
        data.extractLsb' 0 8 ∉ ([0x00, 0x01, 0x10, 0x11, 0x12, 0x13, 0x14, 0xFF] : List Byte))) = true := by decide

/-- One input for each branch: illegal by RSVD and by opcode, END outside the accepting phases, ACK outside READY, then
accepted END, ACK and START_FILE. -/
theorem witness_CommandDispatchOrder :
    ((0x112 : Word).extractLsb' 8 24 ≠ 0) ∧
    ((0x15 : Word).extractLsb' 0 8 ∉ ([0x00, 0x01, 0x10, 0x11, 0x12, 0x13, 0x14, 0xFF] : List Byte)) ∧
    ((0x12 : Word).extractLsb' 0 8 = 0x12#8 ∧ (inPhase .ready).decPhase ∉ [Phase.sig, .len, .type, .payload, .crc]) ∧
    ((0x13 : Word).extractLsb' 0 8 = 0x13#8 ∧ (inPhase .crc).decPhase ≠ .ready) ∧
    ((0x12 : Word).extractLsb' 0 8 = 0x12#8 ∧ (inPhase .sig).decPhase ∈ [Phase.sig, .len, .type, .payload, .crc]) ∧
    ((0x13 : Word).extractLsb' 0 8 = 0x13#8 ∧ (inPhase .ready).decPhase = .ready) ∧
    ((0x10 : Word).extractLsb' 8 24 = 0#24 ∧ (0x10 : Word).extractLsb' 0 8 = 0x10#8) := by decide

theorem witness_AccessFaultsExactlyWhenItNamesNoRegister :
    (∀ p ∈ ([(0b00, 0x4C), (0b01, 0x00), (0b11, 0x24), (0b10, 0x01), (0b10, 0x4E), (0b10, 0x50), (0b10, 0x7C)] :
        List (BitVec 2 × BitVec 7)), p.1 ≠ 0b10 ∨ p.2.extractLsb' 0 2 ≠ 0 ∨ 0x50 ≤ p.2) ∧
    (∀ p ∈ ([(0b10, 0x00), (0b10, 0x4C)] : List (BitVec 2 × BitVec 7)),
      ¬(p.1 ≠ 0b10 ∨ p.2.extractLsb' 0 2 ≠ 0 ∨ 0x50 ≤ p.2)) := by decide +kernel

theorem witness_CrcStateDependsOnlyOnTheBytesFed :
    ∀ i ∈ [Instr.wrCrcData32 0x31323334, .rdCrcResult, .wrCrcData8 0x35],
      isRead i = true ∨ ∃ data, i = .wrCrcData8 data ∨ i = .wrCrcData32 data := by
  simp [isRead]

/-- Every clause, with k = 11 and k = 12 in the payload and in the CRC field. -/
theorem witness_EndOfInputByPhase :
    (inPhase .sig).decPhase = .sig ∧ ((inPhase .len).decPhase = .len ∧ (inPhase .len).decFpos = 0) ∧
    (let c := { inPhase .len with decFpos := 1 }; c.decPhase = .len ∧ c.decFpos ≠ 0) ∧
    (inPhase .type).decPhase = .type ∧
    (let c := { inPhase .payload with chLen := 5, decRemain := 2 };
      c.decPhase = .payload ∧ 8 + (c.chLen.toNat - c.decRemain.toNat) = 11) ∧
    (let c := { inPhase .payload with chLen := 5, decRemain := 1 };
      c.decPhase = .payload ∧ 8 + (c.chLen.toNat - c.decRemain.toNat) = 12) ∧
    (let c := { inPhase .crc with chLen := 2, decFpos := 1 };
      c.decPhase = .crc ∧ 8 + c.chLen.toNat + c.decFpos.toNat = 11) ∧
    (let c := { inPhase .crc with chLen := 4 };
      c.decPhase = .crc ∧ 8 + c.chLen.toNat + c.decFpos.toNat = 12) ∧
    (∀ p ∈ [Phase.idle, .ready, .done, .error], (inPhase p).decPhase ∉ [Phase.sig, .len, .type, .payload, .crc]) := by
  decide

theorem witness_AckReleasesAReadyChunk :
    (inPhase .ready).decPhase = .ready ∧ (inPhase .len).decPhase ≠ .ready := by decide

theorem witness_ByteOutsideAcceptingPhaseIsDropped :
    ∀ p ∈ [Phase.idle, .ready, .done, .error], (inPhase p).decPhase ∉ [Phase.sig, .len, .type, .payload, .crc] := by
  decide

/-- Every error code in ERROR, with the STATUS value that R801 and R125 give (code 0: outside ERROR). -/
theorem witness_StatusReadsByLayout :
    readValue .rdStatus (inPhase .idle) = some 0x00 ∧
    ([.badSignature, .chunkTooShort, .invalidChunkType, .truncated, .crcMismatch].map fun e =>
        readValue .rdStatus { inPhase .error with decErr := e }) =
      [some 0x14, some 0x24, some 0x34, some 0x44, some 0x54] := by decide

/-- Every phase, with the number that R602 gives it. -/
theorem witness_DecStateReadsByLayout :
    ([.idle, .sig, .len, .type, .payload, .crc, .ready, .done, .error].map fun p => readValue .rdDecState (inPhase p)) =
      [some 0, some 1, some 2, some 3, some 4, some 5, some 6, some 7, some 8] := by decide

/-- The last signature byte wrong, the last right, the first right. -/
theorem witness_SignatureByteStep :
    let sig : List Byte := [0x89, 0x50, 0x4E, 0x47, 0x0D, 0x0A, 0x1A, 0x0A]
    let last := { inPhase .sig with decFpos := 7 }
    (last.decPhase = .sig ∧ some (0x0B : Byte) ≠ sig[last.decFpos.toNat]?) ∧
    (some (0x0A : Byte) = sig[last.decFpos.toNat]? ∧ last.decFpos = 7) ∧
    ((inPhase .sig).decPhase = .sig ∧ some (0x89 : Byte) = sig[(inPhase .sig).decFpos.toNat]? ∧
      (inPhase .sig).decFpos ≠ 7) := by decide

theorem witness_LengthByteStep :
    ((inPhase .len).decPhase = .len ∧ (inPhase .len).decFpos = 0) ∧
    (let c := { inPhase .len with decFpos := 2 }; c.decPhase = .len ∧ c.decFpos ≠ 0 ∧ c.decFpos ≠ 3) ∧
    (let c := { inPhase .len with decFpos := 3 }; c.decPhase = .len ∧ c.decFpos = 3) := by decide

theorem witness_TypeByteStep :
    ((inPhase .type).decPhase = .type ∧ (inPhase .type).decFpos ≠ 3) ∧
    (let c := { inPhase .type with decFpos := 3 }; c.decPhase = .type ∧ c.decFpos = 3 ∧ c.chLen = 0) ∧
    (let c := { inPhase .type with decFpos := 3, chLen := 1 }; c.decPhase = .type ∧ c.decFpos = 3 ∧ c.chLen ≠ 0) := by
  decide

/-- The 4th payload byte with a bad tag, the last byte with a good tag, a byte before the last. -/
theorem witness_PayloadByteStep :
    (let c := { inPhase .payload with chLen := 10, decRemain := 7, decTagBad := true };
      c.decPhase = .payload ∧ c.decTagBad = true ∧ c.chLen - (c.decRemain - 1) = 4) ∧
    (let c := { inPhase .payload with chLen := 4, decRemain := 1 };
      c.decPhase = .payload ∧ ¬(c.decTagBad = true ∧ c.chLen - (c.decRemain - 1) = 4) ∧ c.decRemain - 1 = 0) ∧
    (let c := { inPhase .payload with chLen := 10, decRemain := 8, decTagBad := true };
      c.decPhase = .payload ∧ ¬(c.decTagBad = true ∧ c.chLen - (c.decRemain - 1) = 4) ∧ c.decRemain - 1 ≠ 0) := by
  decide

/-- The 12th byte with a bad tag, a byte before the last, the last byte matching and not matching. -/
theorem witness_CrcByteStep :
    (let c := { inPhase .crc with chLen := 2, decFpos := 1, decTagBad := true };
      c.decPhase = .crc ∧ c.decTagBad = true ∧ c.chLen.toNat + (c.decFpos.toNat + 1) = 4) ∧
    (let c := { inPhase .crc with chLen := 2, decFpos := 0, decTagBad := true };
      c.decPhase = .crc ∧ ¬(c.decTagBad = true ∧ c.chLen.toNat + (c.decFpos.toNat + 1) = 4) ∧ c.decFpos ≠ 3) ∧
    (let c := { inPhase .crc with decFpos := 3, chCrcStored := 0xAE4260, decCrc := 0x51BD9F7D };
      c.decPhase = .crc ∧ ¬(c.decTagBad = true ∧ c.chLen.toNat + (c.decFpos.toNat + 1) = 4) ∧ c.decFpos = 3 ∧
      shiftIn c.chCrcStored 0x82 = c.decCrc ^^^ 0xFFFFFFFF ∧
      shiftIn c.chCrcStored 0x83 ≠ c.decCrc ^^^ 0xFFFFFFFF) := by decide

/-- The whole signature, a proper prefix (and the empty one), and a wrong eighth byte. -/
theorem witness_SignatureGatesTheFile :
    let sig : List Byte := [0x89, 0x50, 0x4E, 0x47, 0x0D, 0x0A, 0x1A, 0x0A]
    sig.length ≤ 8 ∧ (sig.take 7 ≠ sig ∧ sig.take 7 <+: sig) ∧ (([] : List Byte) ≠ sig ∧ [] <+: sig) ∧
    ((sig.take 7 ++ [0x0B]).length ≤ 8 ∧ ¬(sig.take 7 ++ [0x0B]) <+: sig) := by decide

theorem witness_HeaderBytesFillLengthAndTag : (inPhase .len).decPhase = .len ∧ (inPhase .len).decFpos = 0 := by decide

/-- "IEND" with an empty payload: its CRC and another. -/
theorem witness_ChunkIsAcceptedExactlyWithItsCrc :
    (inPhase .len).decPhase = .len ∧ (inPhase .len).decFpos = 0 ∧ (wireBytes 0x49454E44).all isAlpha = true ∧
    ([] : List Byte).length < 2 ^ 32 ∧ 0xAE426082 = crc32 (wireBytes 0x49454E44 ++ []) ∧
    0xAE426083 ≠ crc32 (wireBytes 0x49454E44 ++ []) := by decide +kernel

theorem witness_BadTagIsReportedAtTheTwelfthByte :
    (inPhase .len).decPhase = .len ∧ (inPhase .len).decFpos = 0 ∧ (wireBytes 0x52753174).all isAlpha = false ∧
    (1 ≤ 1 ∧ 1 < 12) ∧ (1 ≤ 11 ∧ 11 < 12) := by decide

/-- A buffer that parses and one that does not, in each mode. -/
theorem witness_HostParseAgreesWithTheSource :
    (parseFile [0x89, 0x50, 0x4E, 0x47, 0x0D, 0x0A, 0x1A, 0x0A]).2 = none ∧
    (parseFile [0x89, 0x50, 0x4E]).2 = some .badSignature ∧
    (parseStream [0, 0, 0, 0, 0x49, 0x45, 0x4E, 0x44, 0xAE, 0x42, 0x60, 0x82]).2 = none ∧
    (parseStream [0, 0, 0, 0, 0x49, 0x45, 0x4E, 0x44, 0xAE, 0x42, 0x60, 0x83]).2 = some .crcMismatch ∧
    (parseStream [0, 0, 0]).2 = some .chunkTooShort := by decide +kernel

/-- A state that meets every invariant with a bad tag pending in the payload, and its step. -/
theorem witness_StepKeepsReachableInvariants :
    let c := { inPhase .payload with chLen := 10, decRemain := 8, decTagBad := true }
    c.reachableInv ∧ ∃ t, step { machine c with pending := [.access 0x2A400000003] } = .next t :=
  ⟨by decide, _, rfl⟩

/-- R636 (vii) with something in it: a verified chunk in READY. -/
theorem witness_reachableInv_in_ready :
    ({ inPhase .ready with chCrcStored := 0xAE426082, decCrc := 0x51BD9F7D } : Ccb).reachableInv := by decide

theorem witness_StepKeepsHardwiredBitsAndSignatureMode :
    let c := { inPhase .sig with irqEn := 0x307, decMode := true }
    c.irqEnHardwired ∧ c.sigInFileMode ∧
      ∃ t, step { machine c with pending := [.access 0x288FFFFFFFF] } = .next t :=
  ⟨by decide, by decide, _, rfl⟩

theorem witness_ReadsChangeNothingAndPlainWritesAreIdempotent :
    (isRead .rdChFlags = true ∧ ∃ t, exec .rdChFlags (machine Ccb.reset) = .next t) ∧
    (∃ t u, exec (.wrStatus 0x300) (machine Ccb.reset) = .next t ∧ exec (.wrStatus 0x300) t = .next u) :=
  ⟨⟨rfl, _, rfl⟩, _, _, rfl, rfl⟩

theorem witness_CrcgenAndDecoderAreIndependent :
    (∃ t, exec (.wrDecData8 0x89) (machine (inPhase .sig)) = .next t ∧ feedsCrcgen (.wrDecData8 0x89) = false) ∧
    (∃ t, exec (.wrCrcData8 0x61) (machine (inPhase .sig)) = .next t ∧ drivesDecoder (.wrCrcData8 0x61) = false) :=
  ⟨⟨_, rfl, rfl⟩, ⟨_, rfl, rfl⟩⟩

theorem witness_OnlyNamedAccessesChangeControlElements :
    (∃ t, exec (.wrIrqEn 1) (machine Ccb.reset) = .next t ∧ t.ccb.irqEn ≠ Ccb.reset.irqEn) ∧
    (∃ t, exec (.wrTagIn 1) (machine Ccb.reset) = .next t ∧ t.ccb.tagIn ≠ Ccb.reset.tagIn) ∧
    (∃ t, exec .cmdDecStartFile (machine Ccb.reset) = .next t ∧ t.ccb.decMode ≠ Ccb.reset.decMode) ∧
    (∃ t, exec (.wrStatus 0x300) (machine { Ccb.reset with cmdErr := true, ovf := true }) = .next t ∧
      t.ccb.cmdErr = false ∧ t.ccb.ovf = false) :=
  ⟨⟨_, rfl, by decide⟩, ⟨_, rfl, by decide⟩, ⟨_, rfl, by decide⟩, ⟨_, rfl, by decide⟩⟩

theorem witness_FlagsAreSetOnlyByTheirCauses :
    (∃ t, exec .cmdDecEnd (machine Ccb.reset) = .next t ∧ Ccb.reset.cmdErr = false ∧ t.ccb.cmdErr = true) ∧
    (∃ t, exec (.wrDecData8 1) (machine Ccb.reset) = .next t ∧ Ccb.reset.ovf = false ∧ t.ccb.ovf = true) :=
  ⟨⟨_, rfl, by decide⟩, ⟨_, rfl, by decide⟩⟩

/-- The entry into READY, where CH_COUNT changes, and a START that clears CH_COUNT. -/
theorem witness_ReadyOnlyThroughAMatchingCrc :
    let c := { inPhase .crc with decFpos := 3, chCrcStored := 0xAE4260, decCrc := 0x51BD9F7D }
    let d := { inPhase .done with chCount := 2 }
    (∃ t, exec (.wrDecData8 0x82) (machine c) = .next t ∧ c.decPhase ≠ .ready ∧ t.ccb.decPhase = .ready ∧
      t.ccb.chCount ≠ c.chCount) ∧
    (∃ t, exec .cmdDecStartFile (machine d) = .next t ∧ t.ccb.chCount ≠ d.chCount) :=
  ⟨⟨_, rfl, by decide⟩, ⟨_, rfl, by decide⟩⟩

theorem witness_FinalPhasesAreLeftOnlyByRestart :
    (∃ t, exec .cmdDecEnd (machine (inPhase .done)) = .next t ∧ (inPhase .done).decPhase = .done ∧
      Instr.cmdDecEnd ∉ [Instr.cmdDecStartFile, .cmdDecStartStream, .cmdDecAbort, .cmdSoftReset]) ∧
    (∃ t, exec (.wrDecData8 0) (machine (inPhase .error)) = .next t ∧ (inPhase .error).decPhase = .error ∧
      Instr.wrDecData8 0 ∉ [Instr.cmdDecStartFile, .cmdDecStartStream, .cmdDecAbort, .cmdSoftReset]) :=
  ⟨⟨_, rfl, by decide⟩, ⟨_, rfl, by decide⟩⟩

/-- DEC_COUNT at its last value: the accepted byte wraps it to 0. -/
theorem witness_DecCountCountsAcceptedBytes :
    ∃ t, exec (.wrDecData8 0) (machine { inPhase .len with decCount := 0xFFFFFFFF }) = .next t ∧
      (inPhase .len).decPhase ∈ [Phase.sig, .len, .type, .payload, .crc] ∧ t.ccb.decCount = 0 :=
  ⟨_, rfl, by decide⟩

/-- The bit ranges of the statements, at their bounds: the polynomial's 32 bits, and the bits that read 0 in STATUS and in
tag_flags. -/
theorem witness_bit_ranges :
    (0 < 32 ∧ 31 < 32 ∧ (0xEDB88320 : Word).getLsbD 31 = true ∧ (0x04C11DB7 : Word).getLsbD 0 = true) ∧
    (10 ≤ 10 ∧ (statusWord { Ccb.reset with cmdErr := true, ovf := true }).getLsbD 10 = false) ∧
    (6 ≤ 6 ∧ (tagFlags 0x52755374).getLsbD 6 = false) := by decide

/-- R915's `no_bus_error` for a program of two accesses with a reset between them. -/
theorem witness_RunsRecordEveryAccess : noBusError [.access 0x24C00000000, .reset, .access 0x280000000FE] := by
  intro d hd
  simp only [List.mem_cons, HostEvent.access.injEq, reduceCtorEq, false_or, List.not_mem_nil, or_false] at hd
  rcases hd with rfl | rfl <;> decide

end Sys2Proof.Tests
end

section
/-! The family 10_state: the interrupt output, and what a step keeps of IRQ_EN, the signature phase and DEC_COUNT. -/

namespace Sys2Proof.Machine

/-! ### The flag bits of STATUS and the interrupt output (R125, R123) -/

@[simp] theorem statusWord_ready (c : Ccb) : (statusWord c)[0] = (c.decPhase == .ready) := by
  simp only [statusWord, BitVec.getElem_setWidth, BitVec.getLsbD_append]; simp

@[simp] theorem statusWord_done (c : Ccb) : (statusWord c)[1] = (c.decPhase == .done) := by
  simp only [statusWord, BitVec.getElem_setWidth, BitVec.getLsbD_append]; simp

@[simp] theorem statusWord_error (c : Ccb) : (statusWord c)[2] = (c.decPhase == .error) := by
  simp only [statusWord, BitVec.getElem_setWidth, BitVec.getLsbD_append]; simp

@[simp] theorem statusWord_cmdErr (c : Ccb) : (statusWord c)[8] = c.cmdErr := by
  simp only [statusWord, BitVec.getElem_setWidth, BitVec.getLsbD_append]; simp

@[simp] theorem statusWord_ovf (c : Ccb) : (statusWord c)[9] = c.ovf := by
  simp only [statusWord, BitVec.getElem_setWidth, BitVec.getLsbD_append]; simp

/-- Settles O18: the five bits `irq` looks at are the five sources. -/
theorem irqIsTheOrOfEnabledSources : Obligations.IrqIsTheOrOfEnabledSources := by
  intro c
  simp [irq]

/-! ### Invariants of a step (R208) -/

/-- Everything a step can do: nothing at an idle port, a hardware reset, or one access. -/
theorem step_next {s t : State} (h : step s = .next t) :
    (s.pending = [] ∧ t = s) ∨
    (∃ rest, s.pending = .reset :: rest ∧ t = hardwareReset (popPending rest s)) ∨
    (∃ d rest, s.pending = .access d :: rest ∧ exec (decode d) (popPending rest s) = .next t) := by
  unfold step at h
  split at h
  next hp => exact .inl ⟨hp, (Host.Outcome.next.inj h).symm⟩
  next rest hp => exact .inr (.inl ⟨rest, hp, (Host.Outcome.next.inj h).symm⟩)
  next d rest hp => exact .inr (.inr ⟨d, rest, hp, h⟩)

/-- What holds at reset and is kept by every access is kept by every step. -/
theorem step_keeps {P : Ccb → Prop} (hreset : P Ccb.reset)
    (hexec : ∀ {i : Instr} {s t : State}, P s.ccb → exec i s = .next t → P t.ccb)
    {s t : State} (hs : P s.ccb) (h : step s = .next t) : P t.ccb := by
  obtain ⟨-, rfl⟩ | ⟨_, -, rfl⟩ | ⟨_, rest, -, he⟩ := step_next h
  · exact hs
  · exact hreset
  · exact hexec (s := popPending rest s) hs he

/-! ### IRQ_EN (R103, R126) -/

/-- IRQ_EN is kept, but by SOFT_RESET and by its own write (R901). -/
theorem exec_irqEn {i : Instr} {s t : State} (h : exec i s = .next t) :
    (i = .cmdSoftReset ∧ t.ccb.irqEn = 0) ∨ (∃ data, i = .wrIrqEn data ∧ t.ccb.irqEn = irqEnOperand data) ∨
    t.ccb.irqEn = s.ccb.irqEn := by
  rcases exec_effects h with
    ⟨-, -, -, e⟩ | ⟨rfl, e⟩ | ⟨rfl, e⟩ | ⟨_, rfl, e⟩ | ⟨_, rfl, e⟩ | ⟨_, rfl, e⟩ | ⟨_, rfl, e⟩ | ⟨_, rfl, e⟩ |
    ⟨_, rfl, e⟩ | ⟨rfl, e⟩ | ⟨rfl, e⟩ | ⟨rfl, e⟩ | ⟨rfl, e⟩ | ⟨rfl, -, e⟩ | ⟨rfl, -, e⟩ | ⟨_, rfl, e⟩ <;>
    simp [e, Ccb.reset]

theorem irqEnOperand_hardwired (data : Word) : irqEnOperand data &&& 0xFFFFFCF8 = 0 := by
  rw [irqEnOperand, irqEnMask, BitVec.and_assoc]
  simp

theorem exec_keeps_irqEnHardwired {i : Instr} {s t : State} (hs : s.ccb.irqEnHardwired) (h : exec i s = .next t) :
    t.ccb.irqEnHardwired := by
  obtain ⟨-, e⟩ | ⟨data, -, e⟩ | e := exec_irqEn h <;> unfold Ccb.irqEnHardwired <;> rw [e]
  · rfl
  · exact irqEnOperand_hardwired data
  · exact hs

/-! ### The signature phase (R107, R608) -/

/-- The phases a length byte leads to (R609). -/
theorem lenStep_decPhase (b : Byte) (old : Word) (c : Ccb) :
    (lenStep b old c).decPhase = c.decPhase ∨ (lenStep b old c).decPhase = .type := by
  obtain ⟨-, e⟩ | ⟨-, -, e⟩ | ⟨-, e⟩ := lenStep_cases b old c <;> simp [e]

/-- The phases a type-tag byte leads to (R610). -/
theorem typeStep_decPhase (b : Byte) (c : Ccb) :
    (typeStep b c).decPhase = c.decPhase ∨ (typeStep b c).decPhase = .crc ∨ (typeStep b c).decPhase = .payload := by
  obtain ⟨-, e⟩ | ⟨-, -, e⟩ | ⟨-, -, e⟩ := typeStep_cases b c <;> simp [e, typeByte]

/-- The phases a payload byte leads to (R611). -/
theorem payloadStep_decPhase (b : Byte) (c : Ccb) :
    (payloadStep b c).decPhase = c.decPhase ∨ (payloadStep b c).decPhase = .crc ∨
    (payloadStep b c).decPhase = .error := by
  obtain ⟨-, e⟩ | ⟨-, -, e⟩ | ⟨-, -, e⟩ := payloadStep_cases b c <;> simp [e, payloadByte]

/-- The phases a stored-CRC byte leads to (R612). -/
theorem crcFieldStep_decPhase (b : Byte) (c : Ccb) :
    (crcFieldStep b c).decPhase = c.decPhase ∨ (crcFieldStep b c).decPhase = .ready ∨
    (crcFieldStep b c).decPhase = .error := by
  obtain ⟨-, e⟩ | ⟨-, -, e⟩ | ⟨-, -, -, e⟩ | ⟨-, -, -, e⟩ := crcFieldStep_cases b c <;> simp [e, crcFieldByte]

/-- No byte leads into SIG from another phase (R607). -/
theorem decPhase_sig_of_feedByte {b : Byte} {c : Ccb} (h : (feedByte b c).decPhase = .sig) : c.decPhase = .sig := by
  obtain ⟨-, e⟩ | ⟨hp, -⟩ | ⟨hp, e⟩ | ⟨hp, e⟩ | ⟨hp, e⟩ | ⟨hp, e⟩ := feedByte_cases b c
  · rwa [e] at h
  · exact hp
  all_goals rw [e] at h
  · have := lenStep_decPhase b c.decCount { c with decCount := c.decCount + 1 }
    simp_all
  · have := typeStep_decPhase b { c with decCount := c.decCount + 1 }
    simp_all
  · have := payloadStep_decPhase b { c with decCount := c.decCount + 1 }
    simp_all
  · have := crcFieldStep_decPhase b { c with decCount := c.decCount + 1 }
    simp_all

/-- END leaves SIG, and leads into it from no phase (R616). -/
@[simp] theorem endInput_decPhase_ne_sig (c : Ccb) : (endInput c).decPhase ≠ .sig := by
  cases hp : c.decPhase <;> simp only [endInput, endInsideChunk, hp] <;> (try split) <;> simp [hp]

/-- Only START_FILE enters SIG, in file mode, and within SIG every access keeps DEC_MODE (R614, R107). -/
theorem exec_decPhase_sig {i : Instr} {s t : State} (h : exec i s = .next t) (hsig : t.ccb.decPhase = .sig) :
    (i = .cmdDecStartFile ∧ t.ccb.decMode = true) ∨ (s.ccb.decPhase = .sig ∧ t.ccb.decMode = s.ccb.decMode) := by
  rcases exec_effects h with
    ⟨-, -, -, e⟩ | ⟨rfl, e⟩ | ⟨rfl, e⟩ | ⟨_, rfl, e⟩ | ⟨_, rfl, e⟩ | ⟨_, rfl, e⟩ | ⟨_, rfl, e⟩ | ⟨_, rfl, e⟩ |
    ⟨_, rfl, e⟩ | ⟨rfl, e⟩ | ⟨rfl, e⟩ | ⟨rfl, e⟩ | ⟨rfl, e⟩ | ⟨rfl, -, e⟩ | ⟨rfl, -, e⟩ | ⟨_, rfl, e⟩
  -- the byte input
  on_goal 16 => rw [e] at hsig ⊢; exact .inr ⟨decPhase_sig_of_feedByte hsig, feedByte_decMode ..⟩
  -- SOFT_RESET and the decoder commands but START_FILE end in another phase; the rest keep both elements
  all_goals simp_all [Ccb.reset]

theorem exec_keeps_sigInFileMode {i : Instr} {s t : State} (hs : s.ccb.sigInFileMode) (h : exec i s = .next t) :
    t.ccb.sigInFileMode := by
  intro hsig
  obtain ⟨-, hmode⟩ | ⟨hsig', hmode⟩ := exec_decPhase_sig h hsig
  · exact hmode
  · rw [hmode, hs hsig']

/-- Settles O51: each of the two invariants holds at reset and every access keeps it. -/
theorem stepKeepsHardwiredBitsAndSignatureMode : Obligations.StepKeepsHardwiredBitsAndSignatureMode :=
  ⟨fun _ _ => step_keeps (P := Ccb.irqEnHardwired) rfl exec_keeps_irqEnHardwired,
   fun _ _ => step_keeps (P := Ccb.sigInFileMode) nofun exec_keeps_sigInFileMode⟩

/-! ### DEC_COUNT (R111, R620) -/

/-- R603's list of the accepting phases. -/
theorem accepting_iff_mem (p : Phase) : accepting p = true ↔ p ∈ [Phase.sig, .len, .type, .payload, .crc] := by
  cases p <;> decide

/-- The accesses that restart the decoder: the three that perform DecInit, and SOFT_RESET (R605, R702). -/
abbrev restarts : List Instr := [.cmdDecStartFile, .cmdDecStartStream, .cmdDecAbort, .cmdSoftReset]

theorem drivesDecoder_of_mem_restarts {i : Instr} (hi : i ∈ restarts) (hr : i ≠ .cmdSoftReset) :
    drivesDecoder i = true := by
  simp only [List.mem_cons, List.not_mem_nil, or_false] at hi
  obtain rfl | rfl | rfl | rfl := hi
  · rfl
  · rfl
  · rfl
  · exact absurd rfl hr

/-- DEC_COUNT by access: a restart clears it, a byte is counted where it is accepted, any other access keeps it. -/
theorem exec_decCount {i : Instr} {s t : State} (h : exec i s = .next t) :
    (i ∈ restarts ∧ t.ccb.decCount = 0) ∨
    (∃ data, i = .wrDecData8 data ∧
      t.ccb.decCount = if accepting s.ccb.decPhase then s.ccb.decCount + 1 else s.ccb.decCount) ∨
    (i ∉ restarts ∧ (∀ data, i ≠ .wrDecData8 data) ∧ t.ccb.decCount = s.ccb.decCount) := by
  rcases exec_effects h with
    ⟨hd, -, hr, e⟩ | ⟨rfl, e⟩ | ⟨rfl, e⟩ | ⟨_, rfl, e⟩ | ⟨_, rfl, e⟩ | ⟨_, rfl, e⟩ | ⟨_, rfl, e⟩ | ⟨_, rfl, e⟩ |
    ⟨_, rfl, e⟩ | ⟨rfl, e⟩ | ⟨rfl, e⟩ | ⟨rfl, e⟩ | ⟨rfl, e⟩ | ⟨rfl, -, e⟩ | ⟨rfl, -, e⟩ | ⟨_, rfl, e⟩
  · refine .inr (.inr ⟨fun hi => ?_, ?_, by rw [e]⟩)
    · rw [drivesDecoder_of_mem_restarts hi hr] at hd
      cases hd
    · rintro data rfl
      cases hd
  all_goals simp [e, Ccb.reset, feedByte_decCount]

/-- Settles O59: `exec_decCount`, with the accepting phases listed. -/
theorem decCountCountsAcceptedBytes : Obligations.DecCountCountsAcceptedBytes := by
  intro i s t h
  simp only [← accepting_iff_mem]
  obtain ⟨hi, e⟩ | ⟨data, rfl, e⟩ | ⟨hi, hb, e⟩ := exec_decCount h
  · exact ⟨fun _ => e, fun hn => absurd hi hn, by rintro data rfl; simp at hi⟩
  · refine ⟨by simp, fun _ => ?_, fun _ _ ha => by rw [e, if_pos ha]⟩
    by_cases ha : accepting s.ccb.decPhase = true
    · exact .inr ⟨by rw [e, if_pos ha], ⟨data, rfl⟩, ha⟩
    · exact .inl (by rw [e, if_neg ha])
  · exact ⟨fun hn => absurd hn hi, fun _ => .inl e, fun data hd => absurd hd (hb data)⟩

end Sys2Proof.Machine
end

section
/-! The family 20_memory: routing at the bus, the port's order, the wire bytes of a word, and the idempotent accesses. -/

namespace Sys2Proof

/-! ### Decoding what the encoder writes (R300, R305, R306) -/

/-- A 32-bit write of a register decodes by that register. -/
@[simp] theorem decode_writeDescriptor (r : Reg) (data : Word) :
    decode (writeDescriptor r data) = decodeWrite r data := by
  simp [decode, writeDescriptor]

/-- A 32-bit read of a register decodes by that register. -/
@[simp] theorem decode_readDescriptor (r : Reg) : decode (readDescriptor r) = decodeRead r := by
  simp [decode, readDescriptor]

/-- A word that names no command is illegal (R305). -/
theorem decodeCommand_of_namesCommand_eq_false {data : Word} (h : namesCommand data = false) :
    decodeCommand data = .cmdIllegal data := by
  unfold decodeCommand
  split
  next hrsvd => split <;> simp_all [namesCommand]
  next => rfl

/-- An access that names no register is a bus error (R710). -/
theorem decode_of_namesNoRegister {size : BitVec 2} {off : BitVec 7} (h : namesNoRegister size off = true)
    (w : BitVec 1) (data : Word) : decode (descriptor size w off data) = .busError size w off data := by
  have hreg : size = 2 → regAt off = none := by
    rintro rfl
    rw [← Option.isNone_iff_eq_none, regAt_isNone]
    simpa [namesNoRegister] using h
  unfold decode
  split
  next r hsize hr =>
    rw [sizeField_descriptor] at hsize
    rw [offField_descriptor, hreg hsize] at hr
    cases hr
  next => simp only [sizeField_descriptor, writeField_descriptor, offField_descriptor, dataField_descriptor]

/-- Decoding inverts the encoder on every term some descriptor decodes to. -/
theorem decode_encode {i : Instr} (h : i.wellFormed = true) : decode (encode i) = i := by
  cases i
  case cmdIllegal data =>
    rw [encode, decode_writeDescriptor]
    exact decodeCommand_of_namesCommand_eq_false (by simpa [Instr.wellFormed] using h)
  case busError size w off data => exact decode_of_namesNoRegister h w data
  all_goals
    simp only [encode, decode_writeDescriptor, decode_readDescriptor]
    rfl

end Sys2Proof

namespace Sys2Proof.Machine

/-! ### Address decode at the bus (R201) -/

theorem inWindow_iff (a : Nat) : inWindow a = true ↔ Config.ccbBase ≤ a ∧ a < Config.ccbBase + 0x80 := by
  simp [inWindow]

/-- Within the window the 7-bit offset is the distance from its base. -/
theorem busOffset_toNat {a : Nat} (h : inWindow a = true) : (busOffset a).toNat = a - Config.ccbBase := by
  rw [inWindow_iff] at h
  rw [busOffset, BitVec.toNat_ofNat]
  exact Nat.mod_eq_of_lt (by omega)

/-- The descriptor an access is routed as. -/
theorem route_eq_some (x : BusAccess) (d : Descriptor) :
    route x = some d ↔ inWindow x.addr = true ∧
      descriptor x.size x.write (busOffset x.addr) (if x.write = 1 then x.data else 0) = d := by
  simp [route]

/-- Settles O6: `route` tests the window, and the fields of its descriptor are those of the access. -/
theorem busRoutesExactlyTheWindow : Obligations.BusRoutesExactlyTheWindow := by
  refine ⟨Nat.mul_mod_right 128 _, fun x => ⟨?_, fun d h => ?_⟩⟩
  · simp only [Option.isSome_iff_exists, route_eq_some, inWindow_iff, exists_and_left, exists_eq', and_true]
  · obtain ⟨hw, rfl⟩ := (route_eq_some x d).1 h
    simp only [offField_descriptor, sizeField_descriptor, writeField_descriptor, dataField_descriptor]
    exact ⟨busOffset_toNat hw, trivial, trivial, fun hwrite => if_pos hwrite⟩

/-! ### One step (R208) -/

theorem step_of_pending_nil {s : State} (h : s.pending = []) : step s = .next s := by
  unfold step
  rw [h]
  rfl

theorem step_of_pending_reset {s : State} {rest : List HostEvent} (h : s.pending = .reset :: rest) :
    step s = .next (hardwareReset (popPending rest s)) := by
  unfold step
  rw [h]

theorem step_of_pending_access {s : State} {d : Descriptor} {rest : List HostEvent}
    (h : s.pending = .access d :: rest) : step s = exec (decode d) (popPending rest s) := by
  unfold step
  rw [h]

/-- Settles O7: the three shapes of the port. -/
theorem stepServesTheOldestEvent : Obligations.StepServesTheOldestEvent := by
  refine ⟨?_, fun s h => step_of_pending_nil h, fun s rest h => step_of_pending_reset h⟩
  rintro s d rest i h rfl
  exact step_of_pending_access h

/-! ### A run of the port (R208) -/

/-- The accesses of a list of instructions at the port, oldest first, before the events `rest`. -/
def queueAccesses (is : List Instr) (rest : List HostEvent) (s : State) : State :=
  { s with pending := is.map (fun i => HostEvent.access (encode i)) ++ rest }

/-- A step serves the first instruction queued. -/
theorem step_queueAccesses_cons {i : Instr} (hi : i.wellFormed = true) (is : List Instr) (rest : List HostEvent)
    (s : State) : step (queueAccesses (i :: is) rest s) = exec i (queueAccesses is rest s) := by
  rw [step_of_pending_access (d := encode i) rfl, decode_encode hi]
  rfl

/-- A first access that faults ends the sequence in that fault. -/
theorem execAll_cons_fault {i : Instr} {is : List Instr} {s : State} {f : Fault} (h : exec i s = .fault f) :
    execAll (i :: is) s = .fault f := by
  simp only [execAll, h]

/-- No access looks at the port (`exec_cases`), so each step hands the shorter queue on to the rest. -/
theorem run_queueAccesses (is : List Instr) (rest : List HostEvent) (s : State) (h : ∀ i ∈ is, i.wellFormed = true) :
    Sys2Proof.core.run is.length (queueAccesses is rest s) = execAll is (popPending rest s) := by
  induction is generalizing s with
  | nil => rfl
  | cons i is ih =>
    obtain ⟨hi, his⟩ := List.forall_mem_cons.1 h
    have hstep := step_queueAccesses_cons hi is rest s
    rcases exec_cases i with ⟨size, w, off, data, -, hfault⟩ | hnext
    · rw [hfault] at hstep
      rw [execAll_cons_fault (hfault _)]
      exact core_run_of_fault is.length hstep
    · rw [hnext] at hstep
      rw [execAll_cons_next (hnext _)]
      exact (core_run_of_next is.length hstep).trans
        (ih { s with ccb := effectOf i s.ccb, log := s.log ++ answersOf i s.ccb } his)

/-- Settles O8: induction on the instructions, each step serving the first access queued. -/
theorem accessesComposeInOrder : Obligations.AccessesComposeInOrder := run_queueAccesses

/-! ### The wire bytes of a word (R204) -/

/-- Shifting a byte in puts it below the bits there were. -/
theorem getLsbD_shiftIn (x : Word) (b : Byte) {n : Nat} (hn : n < 32) :
    (shiftIn x b).getLsbD n = if n < 8 then b.getLsbD n else x.getLsbD (n - 8) := by
  simp only [shiftIn, BitVec.getLsbD_or, BitVec.getLsbD_shiftLeft, BitVec.getLsbD_setWidth, hn, decide_true,
    Bool.true_and]
  split
  next h => simp [h]
  next h => simp [h, BitVec.getLsbD_of_ge b n (by omega)]

/-- Four bytes are read big-endian as they lie on the wire. -/
theorem bigEndian_wireBytes (w : Word) : bigEndian (wireBytes w) = w := by
  apply BitVec.eq_of_getLsbD_eq
  intro n hn
  simp only [bigEndian, wireBytes, List.foldl_cons, List.foldl_nil]
  rw [getLsbD_shiftIn _ _ hn, getLsbD_shiftIn _ _ (by omega), getLsbD_shiftIn _ _ (by omega),
    getLsbD_shiftIn _ _ (by omega)]
  simp only [wireByte0, wireByte1, wireByte2, wireByte3, BitVec.getLsbD_extractLsb']
  split
  · simp [*]
  split
  · simp [*, show 8 + (n - 8) = n by omega]
  split
  · simp [*, show 16 + (n - 8 - 8) = n by omega]
  · simp [show n - 8 - 8 - 8 < 8 by omega, show 24 + (n - 8 - 8 - 8) = n by omega]

/-- Settles O25: reading big-endian is a left inverse of `wireBytes`. -/
theorem wireBytesDetermineTheWord : Obligations.WireBytesDetermineTheWord :=
  ⟨bigEndian_wireBytes, fun _ _ => (Function.LeftInverse.injective bigEndian_wireBytes).eq_iff⟩

/-! ### Idempotent accesses (R207) -/

/-- No effect but the empty one belongs to a read. -/
theorem exec_ccb_of_isRead {i : Instr} {s t : State} (hi : isRead i = true) (h : exec i s = .next t) :
    t.ccb = s.ccb := by
  rcases exec_effects h with
    ⟨-, -, -, e⟩ | ⟨rfl, -⟩ | ⟨rfl, -⟩ | ⟨_, rfl, -⟩ | ⟨_, rfl, -⟩ | ⟨_, rfl, -⟩ | ⟨_, rfl, -⟩ | ⟨_, rfl, -⟩ |
    ⟨_, rfl, -⟩ | ⟨rfl, -⟩ | ⟨rfl, -⟩ | ⟨rfl, -⟩ | ⟨rfl, -⟩ | ⟨rfl, -⟩ | ⟨rfl, -⟩ | ⟨_, rfl, -⟩
  · exact e
  all_goals cases hi

/-- Storing a value twice stores it, and clearing a flag twice clears it. -/
theorem effectOf_plainWrite_idempotent {data : Word} {i : Instr}
    (hi : i ∈ [Instr.wrTagIn data, .wrIrqEn data, .wrStatus data]) (c : Ccb) :
    effectOf i (effectOf i c) = effectOf i c := by
  simp only [List.mem_cons, List.not_mem_nil, or_false] at hi
  obtain rfl | rfl | rfl := hi
  · rfl
  · rfl
  · simp [effectOf, completeWrite_eq]

/-- Settles O53: a read has no effect, and the effect of each of the three writes is idempotent. -/
theorem readsChangeNothingAndPlainWritesAreIdempotent :
    Obligations.ReadsChangeNothingAndPlainWritesAreIdempotent := by
  refine ⟨fun i s t hi h => exec_ccb_of_isRead hi h, fun data i s t u hi ht hu => ?_⟩
  rw [(exec_next hu).1, (exec_next ht).1, effectOf_plainWrite_idempotent hi]

end Sys2Proof.Machine
end

section
/-! The family 30_encoding: the round trips of decoder and encoder, the opcode table, and the lines of host access
programs. -/

namespace Sys2Proof.Machine

/-- Settles O1: this is `decode_encode`. -/
theorem decodeOfEncodeIsIdentity : Obligations.DecodeOfEncodeIsIdentity :=
  fun _ => decode_encode

/-! ### What a descriptor can be (R306) -/

/-- A 32-bit read of a register decodes by that register, whatever its DATA field holds (R303). -/
theorem decode_descriptor_read (r : Reg) (data : Word) :
    decode (descriptor 0b10 0 (regOffset r) data) = decodeRead r := by
  simp [decode]

/-- R306's outer split: a 32-bit write of a register, a 32-bit read of one, or an access that names no register. -/
theorem descriptor_cases (d : Descriptor) :
    (∃ r data, d = writeDescriptor r data) ∨ (∃ r data, d = descriptor 0b10 0 (regOffset r) data) ∨
    namesNoRegister (sizeField d) (offField d) = true := by
  by_cases hreg : namesNoRegister (sizeField d) (offField d) = true
  · exact .inr (.inr hreg)
  have hfield : sizeField d = 0b10 ∧ (regAt (offField d)).isNone = false := by
    simpa [namesNoRegister, regAt_isNone, and_assoc] using hreg
  obtain ⟨hsize, hsome⟩ := hfield
  obtain ⟨r, hr⟩ : ∃ r, regAt (offField d) = some r := by
    simpa [← Option.isSome_iff_exists] using hsome
  have hd : d = descriptor 0b10 (writeField d) (regOffset r) (dataField d) := by
    rw [regOffset_of_regAt _ _ hr, ← hsize, descriptor_fields]
  rcases BitVec.eq_zero_or_eq_one (writeField d) with hw | hw
  · exact .inr (.inl ⟨r, _, hw ▸ hd⟩)
  · exact .inl ⟨r, _, hw ▸ hd⟩

/-- An access that names no register is a bus error with the descriptor's own fields (R710). -/
theorem decode_eq_busError {d : Descriptor} (h : namesNoRegister (sizeField d) (offField d) = true) :
    decode d = .busError (sizeField d) (writeField d) (offField d) (dataField d) := by
  simpa only [descriptor_fields] using decode_of_namesNoRegister h (writeField d) (dataField d)

/-! ### Encoding what the decoder gives (R300, R303, R305) -/

/-- A word whose RSVD field is 0 is its OPCODE byte. -/
theorem eq_setWidth_of_rsvd_eq_zero {data : Word} (h : data.extractLsb' 8 24 = 0) :
    data = (data.extractLsb' 0 8).setWidth 32 := by
  calc data = data.extractLsb' 8 24 ++ data.extractLsb' 0 8 :=
      (BitVec.extractLsb'_append_extractLsb' (w := 24) (len := 8) (x := data)).symm
    _ = 0#24 ++ data.extractLsb' 0 8 := by rw [h]; rfl
    _ = (data.extractLsb' 0 8).setWidth 32 := BitVec.setWidth_eq_append (by decide) |>.symm

/-- The command words of R305, written out. -/
theorem mem_commands_of_namesCommand {data : Word} (h : namesCommand data = true) :
    data ∈ ([0x00, 0x01, 0x10, 0x11, 0x12, 0x13, 0x14, 0xFF] : List Word) := by
  simp only [namesCommand, Bool.and_eq_true, beq_iff_eq, List.contains_iff_mem] at h
  obtain ⟨hrsvd, hop⟩ := h
  rw [eq_setWidth_of_rsvd_eq_zero hrsvd]
  exact List.mem_map_of_mem (f := BitVec.setWidth 32) hop

/-- A CMD write decodes to a well-formed write that is encoded by the same word. -/
theorem decodeCommand_spec (data : Word) :
    (decodeCommand data).wellFormed = true ∧ isRead (decodeCommand data) = false ∧
    encode (decodeCommand data) = writeDescriptor .cmd data := by
  cases h : namesCommand data
  case false =>
    rw [decodeCommand_of_namesCommand_eq_false h]
    exact ⟨by simp [Instr.wellFormed, h], rfl, rfl⟩
  case true =>
    have hmem := mem_commands_of_namesCommand h
    simp only [List.mem_cons, List.not_mem_nil, or_false] at hmem
    rcases hmem with rfl | rfl | rfl | rfl | rfl | rfl | rfl | rfl <;> exact ⟨rfl, rfl, rfl⟩

/-- A register write decodes to a well-formed write that is encoded by the same register and word. -/
theorem decodeWrite_spec (r : Reg) (data : Word) :
    (decodeWrite r data).wellFormed = true ∧ isRead (decodeWrite r data) = false ∧
    encode (decodeWrite r data) = writeDescriptor r data := by
  cases r
  case cmd => exact decodeCommand_spec data
  all_goals exact ⟨rfl, rfl, rfl⟩

/-- A register read decodes to a well-formed read that is encoded by the same register, with DATA 0. -/
theorem decodeRead_spec (r : Reg) :
    (decodeRead r).wellFormed = true ∧ isRead (decodeRead r) = true ∧ encode (decodeRead r) = readDescriptor r := by
  cases r <;> exact ⟨rfl, rfl, rfl⟩

/-- Settles O2, by R306's outer split. -/
theorem encodeOfDecodeIsIdentity : Obligations.EncodeOfDecodeIsIdentity := by
  intro d
  rcases descriptor_cases d with ⟨r, data, rfl⟩ | ⟨r, data, rfl⟩ | h
  · obtain ⟨hwf, hread, henc⟩ := decodeWrite_spec r data
    rw [decode_writeDescriptor]
    exact ⟨hwf, fun _ => henc, fun h => by simp [hread] at h⟩
  · obtain ⟨hwf, hread, henc⟩ := decodeRead_spec r
    rw [decode_descriptor_read]
    exact ⟨hwf, fun h => by simp [hread] at h, fun _ => by simp [henc, readDescriptor]⟩
  · rw [decode_eq_busError h]
    exact ⟨h, fun _ => descriptor_fields d, nofun⟩

/-- Every descriptor decodes to a well-formed instruction. -/
theorem wellFormed_decode (d : Descriptor) : (decode d).wellFormed = true := (encodeOfDecodeIsIdentity d).1

/-- Encoding a decoded write or bus error gives the descriptor back. -/
theorem encode_decode {d : Descriptor} (h : isRead (decode d) = false) : encode (decode d) = d :=
  (encodeOfDecodeIsIdentity d).2.1 h

/-- Encoding a decoded read gives the descriptor back with DATA 0. -/
theorem encode_decode_of_isRead {d : Descriptor} (h : isRead (decode d) = true) :
    encode (decode d) = descriptor (sizeField d) (writeField d) (offField d) 0 :=
  (encodeOfDecodeIsIdentity d).2.2 h

/-! ### The fallback rows (R306 steps 1 and 3) -/

theorem mnemonic_eq_busError {i : Instr} (h : i.mnemonic = "BUS_ERROR") :
    ∃ size w off data, i = .busError size w off data := by
  cases i
  case busError size w off data => exact ⟨size, w, off, data, rfl⟩
  all_goals exact absurd h (by simp [Instr.mnemonic])

theorem mnemonic_eq_cmdIllegal {i : Instr} (h : i.mnemonic = "CMD_ILLEGAL") : ∃ data, i = .cmdIllegal data := by
  cases i
  case cmdIllegal data => exact ⟨data, rfl⟩
  all_goals exact absurd h (by simp [Instr.mnemonic])

/-- BUS_ERROR is selected exactly for the accesses that name no register. -/
theorem mnemonic_decode_eq_busError (d : Descriptor) :
    (decode d).mnemonic = "BUS_ERROR" ↔ namesNoRegister (sizeField d) (offField d) = true := by
  refine ⟨fun h => ?_, fun h => by rw [decode_eq_busError h]; rfl⟩
  obtain ⟨size, w, off, data, hi⟩ := mnemonic_eq_busError h
  have hwf := wellFormed_decode d
  have hd : encode (decode d) = d := encode_decode (by rw [hi]; rfl)
  rw [hi] at hwf hd
  rw [← hd, encode, sizeField_descriptor, offField_descriptor]
  exact hwf

/-- CMD_ILLEGAL is selected exactly for the CMD writes whose word names no command. -/
theorem mnemonic_decode_eq_cmdIllegal (d : Descriptor) :
    (decode d).mnemonic = "CMD_ILLEGAL" ↔
      sizeField d = 0b10 ∧ writeField d = 1 ∧ offField d = 0x00 ∧ namesCommand (dataField d) = false := by
  constructor
  · intro h
    obtain ⟨data, hi⟩ := mnemonic_eq_cmdIllegal h
    have hwf := wellFormed_decode d
    have hd : encode (decode d) = d := encode_decode (by rw [hi]; rfl)
    rw [hi] at hwf hd
    rw [← hd]
    simpa [encode, writeDescriptor, regOffset, Instr.wellFormed] using hwf
  · rintro ⟨hsize, hw, hoff, hcmd⟩
    have hd : d = writeDescriptor .cmd (dataField d) := by
      rw [writeDescriptor, show regOffset .cmd = 0x00 from rfl, ← hsize, ← hw, ← hoff, descriptor_fields]
    rw [hd, decode_writeDescriptor, decodeWrite, decodeCommand_of_namesCommand_eq_false hcmd]
    rfl

/-! ### The other rows (R305, R309) -/

open Laws.EncodesRow in
/-- The row of an instruction's mnemonic fits its encoding. -/
theorem encode_fits_row : ∀ i : Instr, Laws.EncodesRow.Statement i
  | .cmdNop => cmdNop | .cmdCrcInit => cmdCrcInit | .cmdDecStartFile => cmdDecStartFile
  | .cmdDecStartStream => cmdDecStartStream | .cmdDecEnd => cmdDecEnd | .cmdDecAck => cmdDecAck
  | .cmdDecAbort => cmdDecAbort | .cmdSoftReset => cmdSoftReset | .cmdIllegal data => cmdIllegal data
  | .wrStatus data => wrStatus data | .wrIrqEn data => wrIrqEn data | .wrCrcData8 data => wrCrcData8 data
  | .wrCrcData32 data => wrCrcData32 data | .wrTagIn data => wrTagIn data | .wrDecData8 data => wrDecData8 data
  | .wrRoCrcState data => wrRoCrcState data | .wrRoCrcResult data => wrRoCrcResult data
  | .wrRoTagFlags data => wrRoTagFlags data | .wrRoDecState data => wrRoDecState data
  | .wrRoDecCount data => wrRoDecCount data | .wrRoDecRemain data => wrRoDecRemain data
  | .wrRoChLen data => wrRoChLen data | .wrRoChType data => wrRoChType data | .wrRoChFlags data => wrRoChFlags data
  | .wrRoChCrcStored data => wrRoChCrcStored data | .wrRoChCrcCalc data => wrRoChCrcCalc data
  | .wrRoChOffset data => wrRoChOffset data | .wrRoChCount data => wrRoChCount data
  | .rdStatus => rdStatus | .rdIrqEn => rdIrqEn | .rdCrcState => rdCrcState | .rdCrcResult => rdCrcResult
  | .rdTagIn => rdTagIn | .rdTagFlags => rdTagFlags | .rdDecState => rdDecState | .rdDecCount => rdDecCount
  | .rdDecRemain => rdDecRemain | .rdChLen => rdChLen | .rdChType => rdChType | .rdChFlags => rdChFlags
  | .rdChCrcStored => rdChCrcStored | .rdChCrcCalc => rdChCrcCalc | .rdChOffset => rdChOffset
  | .rdChCount => rdChCount | .rdWoCmd => rdWoCmd | .rdWoCrcData8 => rdWoCrcData8
  | .rdWoCrcData32 => rdWoCrcData32 | .rdWoDecData8 => rdWoDecData8
  | .busError size w off data => busError size w off data

/-- No two rows of the table have one mnemonic. -/
theorem nodup_mnemonics : (opcodeTable.map Row.mnemonic).Nodup := by decide

/-- The shape of a row that is no fallback: its pattern decodes to it, and its mask fixes every bit (a command) or every
bit but DATA (an access of any other register, or a read). -/
theorem row_shape : ∀ r ∈ opcodeTable, r.fallback = false → (decode r.pattern).mnemonic = r.mnemonic ∧
    (r.mask = 0x3FFFFFFFFFF ∧ isRead (decode r.pattern) = false ∨
      r.mask = 0x3FF00000000 ∧ (writeField r.pattern = 0 ∨ offField r.pattern ≠ 0)) := by decide

/-- A row that fixes every bit but DATA fits exactly the descriptors with its other three fields. -/
theorem fits_iff_of_dataMask {r : Row} (hmask : r.mask = 0x3FF00000000) (d : Descriptor) :
    r.fits d = true ↔ descriptor (sizeField d) (writeField d) (offField d) 0 = r.pattern := by
  rw [Row.fits, beq_iff_eq, hmask, ← Laws.EncodesRow.mask_descriptor _ _ _ (dataField d), descriptor_fields]

/-- A row that fixes every bit fits its pattern alone. -/
theorem fits_iff_of_fullMask {r : Row} (hmask : r.mask = 0x3FFFFFFFFFF) (d : Descriptor) :
    r.fits d = true ↔ d = r.pattern := by
  rw [Row.fits, beq_iff_eq, hmask, show (0x3FFFFFFFFFF : Descriptor) = BitVec.allOnes 42 from rfl, BitVec.and_allOnes]

/-- Only in a CMD write does DATA take part in selecting the row. -/
theorem mnemonic_decode_clearData {d : Descriptor} (h : writeField d = 0 ∨ offField d ≠ 0) :
    (decode (descriptor (sizeField d) (writeField d) (offField d) 0)).mnemonic = (decode d).mnemonic := by
  rcases descriptor_cases d with ⟨r, data, rfl⟩ | ⟨r, data, rfl⟩ | hnone
  · have hr : r ≠ .cmd := by rintro rfl; simp [writeDescriptor, regOffset] at h
    have hzero : descriptor (sizeField (writeDescriptor r data)) (writeField (writeDescriptor r data))
        (offField (writeDescriptor r data)) 0 = writeDescriptor r 0 := by simp [writeDescriptor]
    rw [hzero, decode_writeDescriptor, decode_writeDescriptor]
    cases r
    case cmd => exact absurd rfl hr
    all_goals rfl
  · simp only [sizeField_descriptor, writeField_descriptor, offField_descriptor, decode_descriptor_read]
  · rw [decode_of_namesNoRegister hnone, decode_eq_busError hnone]
    rfl

/-- A row that fits is the selected one. -/
theorem mnemonic_decode_of_fits {r : Row} (hr : r ∈ opcodeTable) (hrow : r.fallback = false) {d : Descriptor}
    (h : r.fits d = true) : (decode d).mnemonic = r.mnemonic := by
  obtain ⟨hpat, ⟨hmask, -⟩ | ⟨hmask, hdata⟩⟩ := row_shape r hr hrow
  · rw [(fits_iff_of_fullMask hmask d).mp h, hpat]
  · have hd := (fits_iff_of_dataMask hmask d).mp h
    rw [← hd, writeField_descriptor, offField_descriptor] at hdata
    rw [← hpat, ← hd, mnemonic_decode_clearData hdata]

/-- A row that fits the encoding of a decoded descriptor fits the descriptor. -/
theorem fits_of_fits_encode_decode {r : Row} (hr : r ∈ opcodeTable) (hrow : r.fallback = false) {d : Descriptor}
    (h : r.fits (encode (decode d)) = true) : r.fits d = true := by
  cases hread : isRead (decode d)
  case false => rwa [encode_decode hread] at h
  case true =>
    obtain ⟨-, ⟨hmask, hcmd⟩ | ⟨hmask, -⟩⟩ := row_shape r hr hrow
    · rw [← (fits_iff_of_fullMask hmask _).mp h, decode_encode (wellFormed_decode d), hread] at hcmd
      cases hcmd
    · rw [encode_decode_of_isRead hread] at h
      simpa [fits_iff_of_dataMask hmask] using h

/-- The selected row fits. -/
theorem fits_of_mnemonic_decode {r : Row} (hr : r ∈ opcodeTable) (hrow : r.fallback = false) {d : Descriptor}
    (h : (decode d).mnemonic = r.mnemonic) : r.fits d = true := by
  obtain ⟨r', hr', hmn, hfits⟩ := encode_fits_row (decode d) (wellFormed_decode d)
  obtain rfl : r' = r := List.inj_on_of_nodup_map nodup_mnemonics hr' hr (hmn.trans h)
  exact fits_of_fits_encode_decode hr hrow hfits

/-- Settles O3: the fitting row is the selected one, and the two fallback rows have their own characterisations. -/
theorem decodeSelectsTheOneTableRow : Obligations.DecodeSelectsTheOneTableRow := by
  intro d
  refine ⟨?_, fun r hr hrow => ⟨mnemonic_decode_of_fits hr hrow, fits_of_mnemonic_decode hr hrow⟩, ?_, ?_⟩
  · obtain ⟨r, hr, hmn, -⟩ := encode_fits_row (decode d) (wellFormed_decode d)
    exact ⟨r, hr, hmn⟩
  · rw [mnemonic_decode_eq_busError]
    simp [namesNoRegister, or_assoc]
  · rw [mnemonic_decode_eq_cmdIllegal]
    simp [namesCommand, ← imp_iff_not_or]

/-! ### Sample descriptors and the lines of host access programs (R310, R311) -/

/-- Settles O4: each descriptor is decoded. -/
theorem sampleDescriptorsDecodeRight : Obligations.SampleDescriptorsDecodeRight := by
  unfold Obligations.SampleDescriptorsDecodeRight
  decide

/-- A `wr` line with a register's offset is the 32-bit write of that register. -/
@[simp] theorem wrLine_regOffset (r : Reg) (v : Word) : wrLine (regOffset r) v = writeDescriptor r v := rfl

/-- An ASCII text stands for its character codes (R311). -/
theorem toNat_asciiBytes {text : List Char} (h : ∀ ch ∈ text, ch.toNat < 0x80) :
    (asciiBytes text).map (·.toNat) = text.map (·.toNat) := by
  rw [asciiBytes, List.map_map, List.map_inj_left]
  intro ch hch
  have hlt := h ch hch
  simp only [Function.comp_apply, BitVec.toNat_ofNat]
  omega

/-- Settles O5: every line of R311 is a list of register writes, which decode by their registers. -/
theorem assemblerLinesExpandAsListed : Obligations.AssemblerLinesExpandAsListed := by
  refine ⟨fun _ _ => rfl, fun _ => rfl, by decide, fun bs => ?crc8, fun w => ?crc32, fun bs => ?feed,
    fun w => ?feed32, fun _ => ⟨rfl, rfl⟩, fun _ => toNat_asciiBytes, by decide⟩
  case crc8 => simp [assemble, crc8, decodeWrite]
  case crc32 => simp [assemble, decodeWrite]
  case feed => simp [assemble, feed, decodeWrite]
  case feed32 => simp [assemble, feed, decodeWrite, wireBytes, wireByte0, wireByte1, wireByte2, wireByte3]

end Sys2Proof.Machine
end

section
/-! The family 40_type_tag: tag_flags bit by bit, and the accesses of TAG_IN, TAG_FLAGS and CH_FLAGS. -/

namespace Sys2Proof.Machine

/-! ### The bits of a tag (R400, R403 to R406) -/

/-- The letters by their codes (R400). -/
theorem isAlpha_iff (b : Byte) :
    isAlpha b = true ↔ (0x41 ≤ b.toNat ∧ b.toNat ≤ 0x5A) ∨ (0x61 ≤ b.toNat ∧ b.toNat ≤ 0x7A) := by
  simp [isAlpha, BitVec.le_def]

theorem tagCritical_iff (t : Word) : tagCritical t = true ↔ t.getLsbD 29 = false := by
  simp [tagCritical, wireByte0]

theorem tagPublic_iff (t : Word) : tagPublic t = true ↔ t.getLsbD 21 = false := by
  simp [tagPublic, wireByte1]

theorem tagReservedOk_iff (t : Word) : tagReservedOk t = true ↔ t.getLsbD 13 = false := by
  simp [tagReservedOk, wireByte2]

theorem tagSafeToCopy_iff (t : Word) : tagSafeToCopy t = true ↔ t.getLsbD 5 = true := by
  simp [tagSafeToCopy, wireByte3]

/-- ALPHA, the four bytes written out (R402). -/
theorem tagAlpha_iff (t : Word) :
    tagAlpha t = true ↔ isAlpha (t.extractLsb' 24 8) = true ∧ isAlpha (t.extractLsb' 16 8) = true ∧
      isAlpha (t.extractLsb' 8 8) = true ∧ isAlpha (t.extractLsb' 0 8) = true := by
  simp only [tagAlpha, wireByte0, wireByte1, wireByte2, wireByte3, Bool.and_eq_true, and_assoc]

theorem tagValid_iff (t : Word) : tagValid t = true ↔ tagAlpha t = true ∧ tagReservedOk t = true := by
  rw [tagValid, Bool.and_eq_true]

/-! ### The bits of tag_flags (R401) -/

/-- The six flags, bit 0 first. -/
def flagsOf (t : Word) : List Bool :=
  [tagAlpha t, tagCritical t, tagPublic t, tagReservedOk t, tagSafeToCopy t, tagValid t]

/-- A bit of tag_flags is the flag in its place, and 0 above the six (R408). -/
theorem tagFlags_getLsbD (t : Word) (n : Nat) : (tagFlags t).getLsbD n = (flagsOf t).getD n false := by
  simp only [tagFlags, BitVec.getLsbD_setWidth, BitVec.getLsbD_append]
  match n with
  | 0 | 1 | 2 | 3 | 4 | 5 => simp [flagsOf]
  | n + 6 => simp [flagsOf]

/-- Settles O24: each bit is its flag, and each flag is read off the tag. -/
theorem tagFlagsBitByBit : Obligations.TagFlagsBitByBit := by
  intro t
  simp only [tagFlags_getLsbD, ← isAlpha_iff]
  exact ⟨tagAlpha_iff t, tagCritical_iff t, tagPublic_iff t, tagReservedOk_iff t, tagSafeToCopy_iff t,
    tagValid_iff t, fun _ => List.getD_eq_default (flagsOf t) false⟩

/-! ### The accesses (R411, R412, R413, R624) -/

/-- Settles O22: the write completes with TAG_IN updated (`exec_wrTagIn`). -/
theorem tagInWriteStoresTheWord : Obligations.TagInWriteStoresTheWord :=
  fun data s => ⟨decode_writeDescriptor .tagIn data, _, exec_wrTagIn data s, rfl⟩

/-- Settles O23: the three reads, one by one. -/
theorem tagReadsGiveTagAndFlags : Obligations.TagReadsGiveTagAndFlags := by
  intro data s p hp
  simp only [List.mem_cons, List.not_mem_nil, or_false] at hp
  rcases hp with rfl | rfl | rfl
  · exact ⟨decode_descriptor_read .tagIn data, _, exec_rdTagIn s, rfl, rfl⟩
  · exact ⟨decode_descriptor_read .tagFlags data, _, exec_rdTagFlags s, rfl, rfl⟩
  · exact ⟨decode_descriptor_read .chFlags data, _, exec_rdChFlags s, rfl, rfl⟩

end Sys2Proof.Machine
end

section
/-! The family 41_crc: the CRC step bit by bit and over GF(2), the accesses of CRCGEN, its independence of the decoder, and
a chunk fed to the decoder with its stored CRC. -/

namespace Sys2Proof.Machine

/-! ### The CRC step over GF(2) (R501, R502, R512) -/

/-- A round takes bit 0 of the xored word in as a serial bit, and the word's other bits move down. -/
theorem crcRound_xor_eq_crcBit (c x : Word) : crcRound (c ^^^ x) = crcBit c (x.getLsbD 0) ^^^ (x >>> 1) := by
  simp only [crcRound, crcBit, BitVec.getLsbD_xor, BitVec.ushiftRight_xor_distrib]
  split
  · rw [BitVec.xor_assoc, BitVec.xor_comm (x >>> 1), ← BitVec.xor_assoc]
  · rfl

/-- `n` rounds take the low `n` bits of the xored word in one at a time, bit 0 first. -/
theorem crcRounds_xor_eq_foldl_crcBit (n : Nat) (c x : Word) :
    crcRounds n (c ^^^ x) = (List.range n).foldl (fun y k => crcBit y (x.getLsbD k)) c ^^^ (x >>> n) := by
  induction n generalizing c x with
  | zero => simp [crcRounds]
  | succ n ih =>
    rw [crcRounds, crcRound_xor_eq_crcBit, ih, List.range_succ_eq_map, List.foldl_cons, List.foldl_map]
    simp only [BitVec.getLsbD_ushiftRight, Nat.succ_eq_add_one, Nat.add_comm 1]
    rw [← BitVec.shiftRight_add, Nat.add_comm 1]

/-- Settles O30: eight rounds take in all bits of a byte, and leave nothing of it to xor. -/
theorem crcStepEntersLeastSignificantBitFirst : Obligations.CrcStepEntersLeastSignificantBitFirst := by
  intro c b
  have hrest : b.setWidth 32 >>> 8 = 0#32 := by
    apply BitVec.eq_of_getLsbD_eq
    intro i _
    simp
  rw [crcStep, crcRounds_xor_eq_foldl_crcBit, hrest, BitVec.xor_zero]
  simp [List.range_succ]

/-- The step is linear in state and byte together (`crcRounds_xor`). -/
theorem crcStep_xor (c₁ c₂ : Word) (b₁ b₂ : Byte) :
    crcStep (c₁ ^^^ c₂) (b₁ ^^^ b₂) = crcStep c₁ b₁ ^^^ crcStep c₂ b₂ := by
  simp only [crcStep, ← crcRounds_xor, BitVec.setWidth_xor]
  ac_rfl

/-- Settles O31: the 32 bits of the two constants are compared, and the step is linear by `crcStep_xor`. -/
theorem crcArithmeticIsOverGf2 : Obligations.CrcArithmeticIsOverGf2 :=
  ⟨by decide, crcStep_xor⟩

/-! ### The accesses of CRCGEN (R504 to R508) -/

/-- Settles O26: the command word is decoded, and `exec_cmdCrcInit` gives the effect. -/
theorem crcInitSetsTheInitialValue : Obligations.CrcInitSetsTheInitialValue :=
  ⟨decode_writeDescriptor .cmd 1, fun s => ⟨_, exec_cmdCrcInit s, rfl⟩⟩

/-- Settles O27: the write of CRC_DATA8 feeds its byte operand (`exec_wrCrcData8`). -/
theorem crcData8FeedsTheLowByte : Obligations.CrcData8FeedsTheLowByte :=
  fun data s => ⟨decode_writeDescriptor .crcData8 data, _, exec_wrCrcData8 data s, rfl⟩

/-- Settles O28: the write of CRC_DATA32 feeds the wire bytes of its word (`exec_wrCrcData32`). -/
theorem crcData32FeedsFourBytes : Obligations.CrcData32FeedsFourBytes :=
  fun data s => ⟨decode_writeDescriptor .crcData32 data, _, exec_wrCrcData32 data s, rfl⟩

/-- Settles O29: the two reads, one by one. -/
theorem crcReadsGiveStateAndResult : Obligations.CrcReadsGiveStateAndResult := by
  intro data s p hp
  simp only [List.mem_cons, List.not_mem_nil, or_false] at hp
  rcases hp with rfl | rfl
  · exact ⟨decode_descriptor_read .crcState data, _, exec_rdCrcState s, rfl, rfl⟩
  · exact ⟨decode_descriptor_read .crcResult data, _, exec_rdCrcResult s, rfl, rfl⟩

/-! ### Sequences of feeds and reads (R511, R509) -/

/-- A read feeds no byte. -/
theorem crcBytesOf_of_isRead {i : Instr} (h : isRead i = true) : crcBytesOf i = [] := by
  cases i <;> simp_all [isRead, crcBytesOf]

/-- A feed or a read completes, and steps CRC_STATE by the bytes it feeds and changes nothing else. -/
theorem exec_feed_or_read {i : Instr} (h : isRead i = true ∨ ∃ data, i = .wrCrcData8 data ∨ i = .wrCrcData32 data)
    (s : State) :
    ∃ t, exec i s = .next t ∧ t.ccb = { s.ccb with crcState := crcFold s.ccb.crcState (crcBytesOf i) } := by
  obtain hread | ⟨data, rfl | rfl⟩ := h
  · obtain ⟨_, _, _, _, rfl, -⟩ | hnext := exec_cases i
    · cases hread
    · refine ⟨_, hnext s, ?_⟩
      rw [exec_ccb_of_isRead hread (hnext s), crcBytesOf_of_isRead hread, crcFold_nil]
  · exact ⟨_, exec_wrCrcData8 data s, rfl⟩
  · exact ⟨_, exec_wrCrcData32 data s, rfl⟩

/-- Settles O32: induction on the accesses, each by `exec_feed_or_read`. -/
theorem crcStateDependsOnlyOnTheBytesFed : Obligations.CrcStateDependsOnlyOnTheBytesFed := by
  intro is s h
  induction is generalizing s with
  | nil => exact ⟨s, rfl, rfl⟩
  | cons i is ih =>
    obtain ⟨hi, his⟩ := List.forall_mem_cons.1 h
    obtain ⟨t, ht, hccb⟩ := exec_feed_or_read hi s
    obtain ⟨u, hu, hccb'⟩ := ih t his
    refine ⟨u, (execAll_cons_next ht).trans hu, ?_⟩
    rw [hccb', hccb, List.flatMap_cons, List.foldl_append]
    rfl

/-- The accesses of a `crc8` line feed its bytes (R311). -/
@[simp] theorem flatMap_crcBytesOf_crc8 (bytes : List Byte) : (crc8 bytes).flatMap crcBytesOf = bytes := by
  simp [crc8, List.flatMap_map, crcBytesOf]

/-- Settles O33: after CRC_INIT the feeds leave the fold over tag and payload (`crcStateDependsOnlyOnTheBytesFed`), which
the read complements. -/
theorem buildPathReadsTheChunkCrc : Obligations.BuildPathReadsTheChunkCrc := by
  intro tag payload s
  obtain ⟨s₁, hinit, hccb₁⟩ := crcInitSetsTheInitialValue.2 s
  obtain ⟨s₂, hfeed, hccb₂⟩ := crcStateDependsOnlyOnTheBytesFed (.wrCrcData32 tag :: crc8 payload) s₁ (by simp [crc8])
  have hresult : crcResult s₂.ccb = crc32 (wireBytes tag ++ payload) := by
    rw [hccb₂, hccb₁, List.flatMap_cons, flatMap_crcBytesOf_crc8, crcResult, crc32, crcFold, crcBytesOf]
  refine ⟨{ s₂ with log := s₂.log ++ [.value (crc32 (wireBytes tag ++ payload))] }, ?_, List.getLast?_concat⟩
  calc execAll (buildPath tag payload) s
    _ = execAll ((.wrCrcData32 tag :: crc8 payload) ++ [Instr.rdCrcResult]) s₁ := execAll_cons_next hinit
    _ = execAll [.rdCrcResult] s₂ := execAll_append_next hfeed
    _ = .next { s₂ with log := s₂.log ++ [.value (crcResult s₂.ccb)] } := rfl
    _ = .next { s₂ with log := s₂.log ++ [.value (crc32 (wireBytes tag ++ payload))] } := by rw [hresult]

/-! ### CRCGEN and the decoder (R513) -/

/-- CRC_STATE is kept by every access but CRCGEN's own writes and SOFT_RESET. -/
theorem exec_crcState {i : Instr} {s t : State} (h : exec i s = .next t) (hr : i ≠ .cmdSoftReset)
    (hi : feedsCrcgen i = false) : t.ccb.crcState = s.ccb.crcState := by
  rcases exec_effects h with
    ⟨-, -, -, e⟩ | ⟨rfl, -⟩ | ⟨rfl, -⟩ | ⟨_, rfl, -⟩ | ⟨_, rfl, -⟩ | ⟨_, rfl, e⟩ | ⟨_, rfl, e⟩ | ⟨_, rfl, e⟩ |
    ⟨_, rfl, e⟩ | ⟨rfl, e⟩ | ⟨rfl, e⟩ | ⟨rfl, e⟩ | ⟨rfl, e⟩ | ⟨rfl, -, e⟩ | ⟨rfl, -, e⟩ | ⟨_, rfl, e⟩
  -- SOFT_RESET and the writes of CRCGEN are excluded; every other effect keeps the element
  all_goals simp_all [feedsCrcgen]

/-- The decoder's elements are kept by every access but the decoder's own and SOFT_RESET. -/
theorem exec_sameDecoder {i : Instr} {s t : State} (h : exec i s = .next t) (hr : i ≠ .cmdSoftReset)
    (hi : drivesDecoder i = false) : t.ccb.sameDecoder s.ccb := by
  rcases exec_effects h with
    ⟨-, -, -, e⟩ | ⟨rfl, -⟩ | ⟨rfl, e⟩ | ⟨_, rfl, e⟩ | ⟨_, rfl, e⟩ | ⟨_, rfl, e⟩ | ⟨_, rfl, e⟩ | ⟨_, rfl, e⟩ |
    ⟨_, rfl, e⟩ | ⟨rfl, -⟩ | ⟨rfl, -⟩ | ⟨rfl, -⟩ | ⟨rfl, -⟩ | ⟨rfl, -⟩ | ⟨rfl, -⟩ | ⟨_, rfl, -⟩
  -- SOFT_RESET and the decoder's accesses are excluded; every other effect keeps the elements
  all_goals simp_all [drivesDecoder, Ccb.sameDecoder]

/-- No access is both CRCGEN's and the decoder's. -/
theorem drivesDecoder_of_feedsCrcgen {i : Instr} (h : feedsCrcgen i = true) : drivesDecoder i = false := by
  cases i <;> simp_all [feedsCrcgen, drivesDecoder]

/-- Settles O54, by `exec_crcState` and `exec_sameDecoder`; SOFT_RESET gives every element its reset value. -/
theorem crcgenAndDecoderAreIndependent : Obligations.CrcgenAndDecoderAreIndependent := by
  refine ⟨fun i ⟨hf, hd⟩ => ?_, fun i s t h hr => ⟨exec_crcState h hr, exec_sameDecoder h hr⟩,
    fun s => ⟨_, exec_cmdSoftReset s, rfl, ?_⟩⟩
  · rw [drivesDecoder_of_feedsCrcgen hf] at hd
    cases hd
  · simp [Ccb.sameDecoder]

/-! ### The bytes of a chunk with an alphabetic tag (R609 to R612) -/

/-- Shifting in the wire bytes of a word gives the word (`bigEndian_wireBytes`, written out). -/
theorem shiftIn_wireBytes (w : Word) :
    shiftIn (shiftIn (shiftIn (shiftIn 0#32 (wireByte0 w)) (wireByte1 w)) (wireByte2 w)) (wireByte3 w) = w :=
  bigEndian_wireBytes w

/-- Four length bytes at a chunk boundary begin the chunk and fill CH_LEN (R609). -/
theorem feedBytes_lengthField {c : Ccb} (hp : c.decPhase = .len) (hf : c.decFpos = 0) (len : Word) :
    feedBytes c (wireBytes len) =
      { beginChunk c.decCount c with decPhase := .type, decFpos := 0, decCount := c.decCount + 4, chLen := len } := by
  simp [wireBytes, feedByte_len, lenStep, advanceField, beginChunk, hp, hf, BitVec.add_assoc, shiftIn_wireBytes]

/-- Four type-tag bytes fill CH_TYPE, are checked and are fed to the CRC; the payload follows, or the CRC field (R610). -/
theorem feedBytes_typeField {c : Ccb} (hp : c.decPhase = .type) (hf : c.decFpos = 0) (hempty : c.chType = 0)
    (tag : Word) :
    feedBytes c (wireBytes tag) =
      { c with
        decPhase := if c.chLen = 0 then .crc else .payload
        decFpos := 0
        decTagBad := c.decTagBad || !(wireBytes tag).all isAlpha
        decCount := c.decCount + 4
        decRemain := c.chLen
        decCrc := crcFold c.decCrc (wireBytes tag)
        chType := tag } := by
  simp [wireBytes, feedByte_type, typeStep, hp, hf, hempty, BitVec.add_assoc, Bool.or_assoc, shiftIn_wireBytes]

/-- The eight header bytes of a chunk (R609, R610, R204). -/
theorem feedBytes_header {c : Ccb} (hp : c.decPhase = .len) (hf : c.decFpos = 0) (len tag : Word) :
    feedBytes c (wireBytes len ++ wireBytes tag) =
      { c with
        decPhase := if len = 0 then .crc else .payload
        decFpos := 0
        decTagBad := !(wireBytes tag).all isAlpha
        decCount := c.decCount + 8
        decRemain := len
        decCrc := crcFold 0xFFFFFFFF (wireBytes tag)
        chLen := len, chType := tag, chCrcStored := 0, chOffset := c.decCount } := by
  rw [feedBytes_append, feedBytes_lengthField hp hf, feedBytes_typeField rfl rfl rfl]
  simp [beginChunk, BitVec.add_assoc]

/-- A whole payload under an alphabetic tag is fed to the CRC and leads to the CRC field; an empty one finds the decoder
there already (R610, R611). -/
theorem feedBytes_payload (payload : List Byte) {c : Ccb} (hf : c.decFpos = 0) (hbad : c.decTagBad = false)
    (hrem : c.decRemain.toNat = payload.length) (hp : c.decPhase = if c.decRemain = 0 then .crc else .payload) :
    feedBytes c payload =
      { c with
        decPhase := .crc
        decCount := c.decCount + BitVec.ofNat 32 payload.length
        decRemain := 0
        decCrc := crcFold c.decCrc payload } := by
  induction payload generalizing c with
  | nil =>
    have h0 : c.decRemain = 0 := BitVec.eq_of_toNat_eq hrem
    rw [if_pos h0] at hp
    simp [← hp, ← h0]
  | cons b bs ih =>
    have hpos : c.decRemain ≠ 0 := fun h => by simp [h] at hrem
    have hlast : (c.decRemain - 1).toNat = bs.length := by
      rw [List.length_cons] at hrem
      bv_omega
    rw [if_neg hpos] at hp
    have hstep : feedByte b c =
        { c with
          decPhase := if c.decRemain - 1 = 0 then .crc else .payload
          decCount := c.decCount + 1
          decRemain := c.decRemain - 1
          decCrc := crcStep c.decCrc b } := by
      rw [feedByte_payload b hp]
      obtain ⟨⟨h, -⟩, -⟩ | ⟨-, h, e⟩ | ⟨-, h, e⟩ := payloadStep_cases b { c with decCount := c.decCount + 1 }
      · simp [hbad] at h
      · rw [e, if_pos h, ← hf]; rfl
      · rw [e, if_neg h, ← hp]; rfl
    rw [feedBytes_cons, hstep]
    refine Eq.trans (ih ?_ ?_ ?_ ?_) ?_
    · exact hf
    · exact hbad
    · exact hlast
    · rfl
    · simp [BitVec.ofNat_add, BitVec.add_assoc, BitVec.add_comm (BitVec.ofNat 32 bs.length)]

/-- Four stored-CRC bytes under an alphabetic tag: READY if they are the computed CRC, else CRC_MISMATCH (R612). -/
theorem feedBytes_crcField {c : Ccb} (hp : c.decPhase = .crc) (hf : c.decFpos = 0) (hbad : c.decTagBad = false)
    (hempty : c.chCrcStored = 0) (stored : Word) :
    feedBytes c (wireBytes stored) =
      if stored = chCrcCalc c then
        { c with
          decPhase := .ready, decCount := c.decCount + 4, chCrcStored := stored, chCount := c.chCount + 1 }
      else enterError .crcMismatch { c with decCount := c.decCount + 4, chCrcStored := stored } := by
  simp [wireBytes, feedByte_crc, crcFieldStep, hp, hf, hbad, hempty, BitVec.add_assoc, shiftIn_wireBytes, chCrcCalc,
    enterError]

/-- A payload's length fits CH_LEN (R600). -/
theorem toNat_payloadLength {payload : List Byte} (hlen : payload.length < 2 ^ 32) :
    (BitVec.ofNat 32 payload.length).toNat = payload.length := by
  rw [BitVec.toNat_ofNat, Nat.mod_eq_of_lt hlen]

/-- The elements after a chunk with this tag and payload has been fed from a chunk boundary, up to the verdict on the stored
CRC (R609 to R612). -/
def chunkFed (tag stored : Word) (payload : List Byte) (c : Ccb) : Ccb :=
  { c with
    decPhase := .crc
    decFpos := 0
    decTagBad := false
    decCount := c.decCount + 12 + BitVec.ofNat 32 payload.length
    decRemain := 0
    decCrc := crcFold 0xFFFFFFFF (wireBytes tag ++ payload)
    chLen := BitVec.ofNat 32 payload.length
    chType := tag
    chCrcStored := stored
    chOffset := c.decCount }

/-- DEC_CRC is then the complement of the CRC of the tag's bytes and the payload (R122, R509). -/
theorem chunkFed_decCrc (tag stored : Word) (payload : List Byte) (c : Ccb) :
    (chunkFed tag stored payload c).decCrc ^^^ 0xFFFFFFFF = crc32 (wireBytes tag ++ payload) := by
  rw [chunkFed, crc32]

/-- A whole chunk with an alphabetic tag, fed from a chunk boundary: READY if its stored CRC is that of its tag and payload,
else CRC_MISMATCH (R510, R612, R633). -/
theorem feedBytes_chunk {c : Ccb} (hp : c.decPhase = .len) (hf : c.decFpos = 0) {tag : Word}
    (htag : (wireBytes tag).all isAlpha = true) {payload : List Byte} (hlen : payload.length < 2 ^ 32) (stored : Word) :
    feedBytes c (wireBytes (BitVec.ofNat 32 payload.length) ++ wireBytes tag ++ payload ++ wireBytes stored) =
      if stored = crc32 (wireBytes tag ++ payload) then
        { chunkFed tag stored payload c with decPhase := .ready, chCount := c.chCount + 1 }
      else enterError .crcMismatch (chunkFed tag stored payload c) := by
  rw [feedBytes_append, feedBytes_append, feedBytes_header hp hf, htag,
    feedBytes_payload payload rfl rfl (toNat_payloadLength hlen) rfl, feedBytes_crcField rfl rfl rfl rfl]
  have hcount (n : Word) : c.decCount + 8#32 + n + 4#32 = c.decCount + 12#32 + n := by
    rw [add_right_comm, BitVec.add_assoc c.decCount]
    rfl
  simp [chunkFed, chCrcCalc, crc32, hcount]

/-- Settles O47: the chunk is fed by `execAll_feed`, and `feedBytes_chunk` says what that makes of the elements. -/
theorem chunkIsAcceptedExactlyWithItsCrc : Obligations.ChunkIsAcceptedExactlyWithItsCrc := by
  intro tag stored payload s hp hf htag hlen
  obtain ⟨t, ht, hccb, -⟩ := execAll_feed
    (wireBytes (BitVec.ofNat 32 payload.length) ++ wireBytes tag ++ payload ++ wireBytes stored) s
  refine ⟨t, ht, ?_⟩
  rw [hccb, feedBytes_chunk hp hf htag hlen]
  have hcalc := chunkFed_decCrc tag stored payload s.ccb
  by_cases hcrc : stored = crc32 (wireBytes tag ++ payload)
  · rw [if_pos hcrc]
    dsimp only
    exact ⟨toNat_payloadLength hlen, rfl, rfl, hcalc, rfl, fun _ => ⟨rfl, rfl⟩, fun hne => absurd hcrc hne⟩
  · rw [if_neg hcrc, enterError_decCrc]
    exact ⟨toNat_payloadLength hlen, rfl, rfl, hcalc, rfl, fun heq => absurd heq hcrc, fun _ => ⟨rfl, rfl, rfl⟩⟩

end Sys2Proof.Machine
end

section
/-! The family 42_chunk_decoder: the decoder's accesses one by one, the reachable-state invariants, whole fields and
chunks, and the host procedure against the source's parse. -/

namespace Sys2Proof.Machine

/-! ### END by phase (R616) -/

theorem endInput_sig {c : Ccb} (h : c.decPhase = .sig) : endInput c = enterError .badSignature c := by
  simp only [endInput, h]

theorem endInput_boundary {c : Ccb} (h : c.decPhase = .len) (hf : c.decFpos = 0) :
    endInput c = { c with decPhase := .done } := by
  simp only [endInput, h, if_pos hf]

theorem endInput_len {c : Ccb} (h : c.decPhase = .len) (hf : c.decFpos ≠ 0) :
    endInput c = enterError .chunkTooShort c := by
  simp only [endInput, h, if_neg hf]

theorem endInput_type {c : Ccb} (h : c.decPhase = .type) : endInput c = enterError .chunkTooShort c := by
  simp only [endInput, h]

/-- In the payload and in the CRC field, `k` decides (R604, D14). -/
theorem endInput_body {c : Ccb} (h : c.decPhase = .payload ∨ c.decPhase = .crc) :
    endInput c = enterError (if chunkBytes c < 12 then .chunkTooShort else .truncated) c := by
  have : endInput c = endInsideChunk c := by
    obtain h | h := h <;> simp only [endInput, h]
  rw [this, endInsideChunk]
  split <;> rfl

theorem endInput_rejected {c : Ccb} (h : accepting c.decPhase = false) : endInput c = rejectCommand c := by
  cases hp : c.decPhase <;> simp_all [accepting, endInput]

/-- Everything END can do: end at a chunk boundary, fail, or be rejected. -/
theorem endInput_cases (c : Ccb) :
    (c.decPhase = .len ∧ c.decFpos = 0 ∧ endInput c = { c with decPhase := .done }) ∨
    (accepting c.decPhase = true ∧ ∃ e ≠ .noError, endInput c = enterError e c) ∨
    (accepting c.decPhase = false ∧ endInput c = rejectCommand c) := by
  cases hp : c.decPhase
  case sig => exact .inr (.inl ⟨rfl, .badSignature, nofun, endInput_sig hp⟩)
  case len =>
    by_cases hf : c.decFpos = 0
    · exact .inl ⟨rfl, hf, endInput_boundary hp hf⟩
    · exact .inr (.inl ⟨rfl, .chunkTooShort, nofun, endInput_len hp hf⟩)
  case type => exact .inr (.inl ⟨rfl, .chunkTooShort, nofun, endInput_type hp⟩)
  case payload => exact .inr (.inl ⟨rfl, _, by split <;> nofun, endInput_body (.inl hp)⟩)
  case crc => exact .inr (.inl ⟨rfl, _, by split <;> nofun, endInput_body (.inr hp)⟩)
  all_goals exact .inr (.inr ⟨rfl, endInput_rejected (by rw [hp]; rfl)⟩)

/-! ### The decoder's commands (R614 to R618) -/

/-- Settles O34: each of the three performs DecInit, and END after START_STREAM finds a chunk boundary. -/
theorem startAndAbortReinitialise : Obligations.StartAndAbortReinitialise := by
  refine ⟨fun s p hp => ?_, fun s => ?_⟩
  · simp only [List.mem_cons, List.not_mem_nil, or_false] at hp
    obtain rfl | rfl | rfl := hp
    · exact ⟨decode_writeDescriptor .cmd 0x10, _, exec_cmdDecStartFile s, rfl⟩
    · exact ⟨decode_writeDescriptor .cmd 0x11, _, exec_cmdDecStartStream s, rfl⟩
    · exact ⟨decode_writeDescriptor .cmd 0x14, _, exec_cmdDecAbort s, rfl⟩
  · refine ⟨_, (execAll_cons_next (exec_cmdDecStartStream s)).trans (execAll_cons_next (exec_cmdDecEnd _)), ?_, ?_⟩
    · rw [endInput_boundary rfl rfl]
    · rw [endInput_boundary rfl rfl]; rfl

/-- A phase outside R603's list does not accept bytes. -/
theorem accepting_eq_false_iff (p : Phase) :
    accepting p = false ↔ p ∉ [Phase.sig, .len, .type, .payload, .crc] := by
  rw [← accepting_iff_mem, Bool.not_eq_true]

/-- Settles O35: END phase by phase, with `k` of R604 in the payload and the CRC field. -/
theorem endOfInputByPhase : Obligations.EndOfInputByPhase := by
  refine ⟨decode_writeDescriptor .cmd 0x12, fun s => ⟨_, exec_cmdDecEnd s, ?_⟩⟩
  have hpayload (hp : s.ccb.decPhase = .payload) :
      chunkBytes s.ccb = 8 + (s.ccb.chLen.toNat - s.ccb.decRemain.toNat) := by simp only [chunkBytes, hp]
  have hcrc (hp : s.ccb.decPhase = .crc) :
      chunkBytes s.ccb = 8 + s.ccb.chLen.toNat + s.ccb.decFpos.toNat := by simp only [chunkBytes, hp]
  refine ⟨endInput_sig, endInput_boundary, endInput_len, endInput_type, fun hp hk => ?_, fun hp hk => ?_,
    fun hp hk => ?_, fun hp hk => ?_, fun hp => endInput_rejected ((accepting_eq_false_iff _).mpr hp)⟩
  · exact (endInput_body (.inl hp)).trans (by rw [hpayload hp, if_pos hk]; rfl)
  · exact (endInput_body (.inl hp)).trans (by rw [hpayload hp, if_neg (Nat.not_lt.mpr hk)]; rfl)
  · exact (endInput_body (.inr hp)).trans (by rw [hcrc hp, if_pos hk]; rfl)
  · exact (endInput_body (.inr hp)).trans (by rw [hcrc hp, if_neg (Nat.not_lt.mpr hk)]; rfl)

/-- Settles O36: the two branches of ACK. -/
theorem ackReleasesAReadyChunk : Obligations.AckReleasesAReadyChunk :=
  ⟨decode_writeDescriptor .cmd 0x13, fun s hp => ⟨_, exec_cmdDecAck s, if_pos hp⟩,
    fun s hp => ⟨_, exec_cmdDecAck s, if_neg hp⟩⟩

/-! ### The byte input, one access (R607 to R612) -/

/-- Settles O37, by `feedByte_dropped`. -/
theorem byteOutsideAcceptingPhaseIsDropped : Obligations.ByteOutsideAcceptingPhaseIsDropped :=
  fun data s => ⟨decode_writeDescriptor .decData8 data, fun hp =>
    ⟨_, exec_wrDecData8 data s, feedByte_dropped _ ((accepting_eq_false_iff _).mpr hp)⟩⟩

/-- The signature byte at a field position, in the list of the eight (R601). -/
theorem getElem?_signature (f : BitVec 3) :
    ([0x89, 0x50, 0x4E, 0x47, 0x0D, 0x0A, 0x1A, 0x0A] : List Byte)[f.toNat]? = some (sigByte f) := by
  revert f; decide

/-- Settles O38: the outcomes of `sigStep_cases`. -/
theorem signatureByteStep : Obligations.SignatureByteStep := by
  intro data s hp
  refine ⟨_, exec_wrDecData8 data s, ?_⟩
  dsimp only
  rw [feedByte_sig _ hp, getElem?_signature, ← byteOperand]
  simp only [ne_eq, Option.some.injEq]
  obtain ⟨hb, e⟩ | ⟨hb, hf, e⟩ | ⟨hb, hf, e⟩ :=
    sigStep_cases (byteOperand data) { s.ccb with decCount := s.ccb.decCount + 1 } <;> rw [e]
  · exact ⟨fun _ => rfl, fun h => absurd h hb, fun h => absurd h hb⟩
  · exact ⟨fun h => absurd hb h, fun _ _ => rfl, fun _ h => absurd hf h⟩
  · exact ⟨fun h => absurd hb h, fun _ h => absurd h hf, fun _ _ => rfl⟩

/-- Settles O39: the field positions of `lenStep_cases`. -/
theorem lengthByteStep : Obligations.LengthByteStep := by
  intro data s hp
  refine ⟨_, exec_wrDecData8 data s, ?_⟩
  dsimp only
  rw [feedByte_len _ hp, ← byteOperand]
  obtain ⟨h0, e⟩ | ⟨h0, h3, e⟩ | ⟨h3, e⟩ :=
    lenStep_cases (byteOperand data) s.ccb.decCount { s.ccb with decCount := s.ccb.decCount + 1 } <;> rw [e]
  · refine ⟨fun _ => ?_, fun h => absurd h0 h, fun h => ?_⟩
    · simp_all [beginChunk, shiftIn]
    · exact absurd (h0.symm.trans h) (by decide)
  · exact ⟨fun h => absurd h h0, fun _ _ => rfl, fun h => absurd h h3⟩
  · exact ⟨fun h => absurd (h3.symm.trans h) (by decide), fun _ h => absurd h3 h, fun _ => rfl⟩

/-- Settles O40: the field positions and lengths of `typeStep_cases`. -/
theorem typeByteStep : Obligations.TypeByteStep := by
  intro data s hp
  refine ⟨_, exec_wrDecData8 data s, ?_⟩
  have hbad : (if isAlpha (byteOperand data) then s.ccb.decTagBad else true) =
      (s.ccb.decTagBad || !isAlpha (byteOperand data)) := by
    cases isAlpha (byteOperand data) <;> simp
  dsimp only
  rw [feedByte_type _ hp, ← byteOperand, hbad]
  obtain ⟨h3, e⟩ | ⟨h3, h0, e⟩ | ⟨h3, h0, e⟩ :=
    typeStep_cases (byteOperand data) { s.ccb with decCount := s.ccb.decCount + 1 } <;> rw [e]
  · exact ⟨fun _ => rfl, fun h => absurd h h3, fun h => absurd h h3⟩
  · exact ⟨fun h => absurd h3 h, fun _ _ => rfl, fun _ h => absurd h0 h⟩
  · exact ⟨fun h => absurd h3 h, fun _ h => absurd h h0, fun _ _ => rfl⟩

/-- Settles O41: the outcomes of `payloadStep_cases`. -/
theorem payloadByteStep : Obligations.PayloadByteStep := by
  intro data s hp
  refine ⟨_, exec_wrDecData8 data s, ?_⟩
  dsimp only
  rw [feedByte_payload _ hp]
  obtain ⟨hb, e⟩ | ⟨hb, h0, e⟩ | ⟨hb, h0, e⟩ :=
    payloadStep_cases (byteOperand data) { s.ccb with decCount := s.ccb.decCount + 1 } <;> rw [e]
  · exact ⟨fun _ => rfl, fun h => absurd hb h, fun h => absurd hb h⟩
  · exact ⟨fun h => absurd h hb, fun _ _ => rfl, fun _ h => absurd h0 h⟩
  · exact ⟨fun h => absurd h hb, fun _ h => absurd h h0, fun _ _ => rfl⟩

/-- Settles O42: the outcomes of `crcFieldStep_cases`. -/
theorem crcByteStep : Obligations.CrcByteStep := by
  intro data s hp
  refine ⟨_, exec_wrDecData8 data s, ?_⟩
  dsimp only
  rw [feedByte_crc _ hp]
  obtain ⟨hb, e⟩ | ⟨hb, h3, e⟩ | ⟨hb, h3, hm, e⟩ | ⟨hb, h3, hm, e⟩ :=
    crcFieldStep_cases (byteOperand data) { s.ccb with decCount := s.ccb.decCount + 1 } <;> rw [e]
  · exact ⟨fun _ => rfl, fun h => absurd hb h, fun h => absurd hb h, fun h => absurd hb h⟩
  · exact ⟨fun h => absurd h hb, fun _ _ => rfl, fun _ h => absurd h h3, fun _ h => absurd h h3⟩
  · exact ⟨fun h => absurd h hb, fun _ h => absurd h3 h, fun _ _ _ => rfl, fun _ _ h => absurd hm h⟩
  · exact ⟨fun h => absurd h hb, fun _ h => absurd h3 h, fun _ _ h => absurd h hm, fun _ _ _ => rfl⟩

/-! ### Reads (R619 to R628) -/

/-- Settles O44: the eight reads, one by one. -/
theorem decoderReadsGiveTheirElements : Obligations.DecoderReadsGiveTheirElements := by
  intro data s p hp
  simp only [List.mem_cons, List.not_mem_nil, or_false] at hp
  obtain rfl | rfl | rfl | rfl | rfl | rfl | rfl | rfl := hp
  · exact ⟨decode_descriptor_read .decCount data, _, exec_rdDecCount s, rfl, rfl⟩
  · exact ⟨decode_descriptor_read .decRemain data, _, exec_rdDecRemain s, rfl, rfl⟩
  · exact ⟨decode_descriptor_read .chLen data, _, exec_rdChLen s, rfl, rfl⟩
  · exact ⟨decode_descriptor_read .chType data, _, exec_rdChType s, rfl, rfl⟩
  · exact ⟨decode_descriptor_read .chCrcStored data, _, exec_rdChCrcStored s, rfl, rfl⟩
  · exact ⟨decode_descriptor_read .chCrcCalc data, _, exec_rdChCrcCalc s, rfl, rfl⟩
  · exact ⟨decode_descriptor_read .chOffset data, _, exec_rdChOffset s, rfl, rfl⟩
  · exact ⟨decode_descriptor_read .chCount data, _, exec_rdChCount s, rfl, rfl⟩

/-- Bit `n` of DEC_STATE, by the field it lies in (R127). -/
theorem decStateWord_getLsbD (c : Ccb) (n : Nat) :
    (decStateWord c).getLsbD n =
      if n < 4 then (phaseCode c.decPhase).getLsbD n else if n = 4 then c.decMode else if n = 5 then c.decTagBad
      else if n < 8 then false else c.decFpos.getLsbD (n - 8) := by
  simp only [decStateWord, BitVec.getLsbD_setWidth, BitVec.getLsbD_append, BitVec.getLsbD_ofBool]
  grind

/-- The fields of DEC_STATE (R127). -/
theorem decStateWord_fields (c : Ccb) :
    (decStateWord c).extractLsb' 0 4 = phaseCode c.decPhase ∧ (decStateWord c).getLsbD 4 = c.decMode ∧
    (decStateWord c).getLsbD 5 = c.decTagBad ∧ (decStateWord c).extractLsb' 6 2 = 0 ∧
    (decStateWord c).extractLsb' 8 3 = c.decFpos ∧ (decStateWord c).extractLsb' 11 21 = 0 := by
  refine ⟨?_, decStateWord_getLsbD c 4, decStateWord_getLsbD c 5, ?_, ?_, ?_⟩ <;>
    apply BitVec.eq_of_getLsbD_eq <;> intro i hi <;>
    simp only [BitVec.getLsbD_extractLsb', decStateWord_getLsbD, hi] <;> grind

/-- Settles O43: the fields of `decStateWord`, with the number of each phase. -/
theorem decStateReadsByLayout : Obligations.DecStateReadsByLayout := by
  intro data s
  obtain ⟨hphase, hmode, hbad, hzero, hfpos, hrest⟩ := decStateWord_fields s.ccb
  refine ⟨decode_descriptor_read .decState data, _, _, exec_rdDecState s, rfl, rfl, ?_⟩
  rw [hphase]
  refine ⟨?_, ?_, ?_, ?_, ?_, ?_, ?_, ?_, ?_, hmode, hbad, hzero, hfpos, hrest⟩ <;> intro hp <;> rw [hp] <;> rfl

/-! ### What an access can do to the decoder (R106 to R118) -/

/-- The decoder's elements after any access: kept, re-initialised, ended, acknowledged, or fed an accepted byte.
Accesses that are rejected or dropped keep them (R607, R700). -/
theorem exec_decoder_cases {i : Instr} {s t : State} (h : exec i s = .next t) :
    t.ccb.sameDecoder s.ccb ∨
    (i ∈ restarts ∧ (t.ccb = Ccb.reset ∨
      ∃ p ∈ [(Phase.sig, true), (.len, false), (.idle, false)], t.ccb = decInit p.1 p.2 s.ccb)) ∨
    (s.ccb.decPhase = .len ∧ s.ccb.decFpos = 0 ∧ t.ccb = { s.ccb with decPhase := .done }) ∨
    (accepting s.ccb.decPhase = true ∧ ∃ e ≠ .noError, t.ccb = enterError e s.ccb) ∨
    (s.ccb.decPhase = .ready ∧ t.ccb = { s.ccb with decPhase := .len, decFpos := 0 }) ∨
    (accepting s.ccb.decPhase = true ∧ ∃ data, i = .wrDecData8 data ∧ t.ccb = feedByte (byteOperand data) s.ccb) := by
  by_cases hr : i = .cmdSoftReset
  · subst hr
    rw [exec_cmdSoftReset, completeWrite_eq_next] at h
    exact .inr (.inl ⟨by simp, .inl (by rw [h])⟩)
  by_cases hd : drivesDecoder i = false
  · exact .inl (exec_sameDecoder h hr hd)
  cases i
  case cmdDecStartFile =>
    rw [exec_cmdDecStartFile, completeWrite_eq_next] at h
    exact .inr (.inl ⟨by simp, .inr ⟨(.sig, true), by simp, by rw [h]⟩⟩)
  case cmdDecStartStream =>
    rw [exec_cmdDecStartStream, completeWrite_eq_next] at h
    exact .inr (.inl ⟨by simp, .inr ⟨(.len, false), by simp, by rw [h]⟩⟩)
  case cmdDecAbort =>
    rw [exec_cmdDecAbort, completeWrite_eq_next] at h
    exact .inr (.inl ⟨by simp, .inr ⟨(.idle, false), by simp, by rw [h]⟩⟩)
  case cmdDecEnd =>
    rw [exec_cmdDecEnd, completeWrite_eq_next] at h
    subst h
    obtain ⟨hp, hf, e⟩ | ⟨ha, err, hne, e⟩ | ⟨-, e⟩ := endInput_cases s.ccb
    · exact .inr (.inr (.inl ⟨hp, hf, e⟩))
    · exact .inr (.inr (.inr (.inl ⟨ha, err, hne, e⟩)))
    · exact .inl (by simp [e, Ccb.sameDecoder])
  case cmdDecAck =>
    rw [exec_cmdDecAck, completeWrite_eq_next] at h
    subst h
    by_cases hp : s.ccb.decPhase = .ready
    · exact .inr (.inr (.inr (.inr (.inl ⟨hp, if_pos hp⟩))))
    · exact .inl (by simp [hp, Ccb.sameDecoder])
  case wrDecData8 data =>
    rw [exec_wrDecData8, completeWrite_eq_next] at h
    subst h
    by_cases ha : accepting s.ccb.decPhase = true
    · exact .inr (.inr (.inr (.inr (.inr ⟨ha, data, rfl, rfl⟩))))
    · exact .inl (by simp [feedByte_dropped _ (Bool.eq_false_of_not_eq_true ha), Ccb.sameDecoder])
  all_goals exact absurd rfl hd

/-! ### Inside a chunk (R604): the states from its first byte's boundary to its last byte -/

/-- The decoder is at or inside a chunk, with its field position and remaining length in range (R636 (iii) to (v)). -/
def Ccb.inChunk (c : Ccb) : Prop :=
  c.decPhase ∈ [Phase.len, .type, .payload, .crc] ∧ c.fposInField ∧ c.remainInRange

/-- `inChunk` and `k` by phase (R604), on naturals. -/
theorem inChunk_iff (c : Ccb) (k : Nat) :
    c.inChunk ∧ chunkBytes c = k ↔
      (c.decPhase = .len ∧ c.decFpos.toNat ≤ 3 ∧ c.decFpos.toNat = k) ∨
      (c.decPhase = .type ∧ c.decFpos.toNat ≤ 3 ∧ 4 + c.decFpos.toNat = k) ∨
      (c.decPhase = .payload ∧ c.decFpos = 0 ∧ 1 ≤ c.decRemain.toNat ∧ c.decRemain.toNat ≤ c.chLen.toNat ∧
        8 + (c.chLen.toNat - c.decRemain.toNat) = k) ∨
      (c.decPhase = .crc ∧ c.decFpos.toNat ≤ 3 ∧ c.decRemain = 0 ∧ 8 + c.chLen.toNat + c.decFpos.toNat = k) := by
  cases hp : c.decPhase <;>
    simp [Ccb.inChunk, Ccb.fposInField, Ccb.remainInRange, chunkBytes, hp, BitVec.le_def, and_assoc]

/-- At a chunk boundary. -/
theorem inChunk_boundary {c : Ccb} (hp : c.decPhase = .len) (hf : c.decFpos = 0) : c.inChunk ∧ chunkBytes c = 0 :=
  (inChunk_iff c 0).mpr (.inl ⟨hp, by rw [hf]; exact Nat.zero_le _, by rw [hf]; rfl⟩)

/-- From the eighth byte on the decoder is in the payload or the CRC field. -/
theorem decPhase_of_eight_le {c : Ccb} (h : c.inChunk) (hk : 8 ≤ chunkBytes c) :
    c.decPhase = .payload ∨ c.decPhase = .crc := by
  obtain ⟨-, hf, hk'⟩ | ⟨-, hf, hk'⟩ | ⟨hp, -⟩ | ⟨hp, -⟩ := (inChunk_iff c _).mp ⟨h, rfl⟩
  · omega
  · omega
  · exact .inl hp
  · exact .inr hp

theorem accepting_of_inChunk {c : Ccb} (h : c.inChunk) : accepting c.decPhase = true :=
  (accepting_iff_mem _).mpr (List.mem_cons_of_mem _ h.1)

/-! ### One byte inside a chunk (R609 to R613) -/

/-- The next byte of the chunk is its 12th, and a bad tag is pending (R613). -/
abbrev reportsTag (c : Ccb) : Prop := c.decTagBad = true ∧ chunkBytes c = 11

/-- A byte is one more byte of the chunk at hand, and no failure. -/
abbrev staysInChunk (b : Byte) (c : Ccb) : Prop :=
  ((feedByte b c).inChunk ∧ chunkBytes (feedByte b c) = chunkBytes c + 1) ∧ (feedByte b c).decErr = c.decErr

/-- A byte ends the chunk at hand: in CRC_MISMATCH, or in READY with the stored CRC the computed one (R612). -/
abbrev givesVerdict (b : Byte) (c : Ccb) : Prop :=
  (∃ d, feedByte b c = enterError .crcMismatch d) ∨
  (feedByte b c).decPhase = .ready ∧ (feedByte b c).decFpos = 0 ∧ (feedByte b c).decTagBad = c.decTagBad ∧
    (feedByte b c).decErr = c.decErr ∧ (feedByte b c).chCrcStored = chCrcCalc (feedByte b c)

/-- A field position below 3 advances without wrapping. -/
theorem fpos_add_one {f : BitVec 3} (h3 : f ≠ 3) (hf : f.toNat ≤ 3) : (f + 1).toNat = f.toNat + 1 ∧ f.toNat < 3 := by
  revert f; decide

/-- No length byte ends a chunk (R609). -/
theorem staysInChunk_len {c : Ccb} (b : Byte) (hp : c.decPhase = .len) (hf : c.decFpos.toNat ≤ 3)
    (hk : c.decFpos.toNat = chunkBytes c) : staysInChunk b c := by
  rw [staysInChunk, inChunk_iff, ← hk, feedByte_len b hp]
  obtain ⟨h0, e⟩ | ⟨-, h3, e⟩ | ⟨h3, e⟩ := lenStep_cases b c.decCount { c with decCount := c.decCount + 1 } <;> rw [e]
  · obtain ⟨hadd, hlt⟩ := fpos_add_one (f := c.decFpos) (by rw [h0]; decide) hf
    exact ⟨.inl ⟨hp, hadd ▸ hlt, hadd⟩, rfl⟩
  · obtain ⟨hadd, hlt⟩ := fpos_add_one h3 hf
    exact ⟨.inl ⟨hp, hadd ▸ hlt, hadd⟩, rfl⟩
  · exact ⟨.inr (.inl ⟨rfl, Nat.zero_le _, by rw [h3]; rfl⟩), rfl⟩

/-- No type-tag byte ends a chunk, and the fourth leads to the payload or to the CRC field (R610). -/
theorem staysInChunk_type {c : Ccb} (b : Byte) (hp : c.decPhase = .type) (hf : c.decFpos.toNat ≤ 3)
    (hk : 4 + c.decFpos.toNat = chunkBytes c) : staysInChunk b c := by
  rw [staysInChunk, inChunk_iff, ← hk, feedByte_type b hp]
  obtain ⟨h3, e⟩ | ⟨h3, h0, e⟩ | ⟨h3, h0, e⟩ := typeStep_cases b { c with decCount := c.decCount + 1 } <;> rw [e]
  · obtain ⟨hadd, hlt⟩ := fpos_add_one h3 hf
    exact ⟨.inr (.inl ⟨hp, hadd ▸ hlt, congrArg (4 + ·) hadd⟩), rfl⟩
  · have hk8 : 8 + c.chLen.toNat + 0 = 4 + c.decFpos.toNat + 1 := by
      rw [show c.chLen = 0 from h0, show c.decFpos = 3 from h3]; rfl
    exact ⟨.inr (.inr (.inr ⟨rfl, Nat.zero_le _, rfl, hk8⟩)), rfl⟩
  · have hk8 : 8 + (c.chLen.toNat - c.chLen.toNat) = 4 + c.decFpos.toNat + 1 := by
      rw [Nat.sub_self, show c.decFpos = 3 from h3]; rfl
    have hpos : 1 ≤ c.chLen.toNat := by
      dsimp only at h0
      bv_omega
    exact ⟨.inr (.inr (.inl ⟨rfl, rfl, hpos, le_rfl, hk8⟩)), rfl⟩

/-- A payload byte stays in the chunk, or reports its tag at `k = 12` (R611, R613). -/
theorem feedByte_inChunk_payload {c : Ccb} (b : Byte) (hp : c.decPhase = .payload) (hf : c.decFpos = 0)
    (hrem : 1 ≤ c.decRemain.toNat) (hlen : c.decRemain.toNat ≤ c.chLen.toNat)
    (hk : 8 + (c.chLen.toNat - c.decRemain.toNat) = chunkBytes c) :
    (¬reportsTag c ∧ staysInChunk b c) ∨ (reportsTag c ∧ ∃ d, feedByte b c = enterError .invalidChunkType d) := by
  have hpred : (c.decRemain - 1).toNat = c.decRemain.toNat - 1 := by bv_omega
  have htwelve : c.chLen - (c.decRemain - 1) = 4 ↔ 8 + (c.chLen.toNat - c.decRemain.toNat) = 11 := by bv_omega
  rw [staysInChunk, inChunk_iff, reportsTag, ← hk, feedByte_payload b hp]
  obtain ⟨hb, e⟩ | ⟨hb, h0, e⟩ | ⟨hb, h0, e⟩ := payloadStep_cases b { c with decCount := c.decCount + 1 } <;>
    rw [e] <;> dsimp only at hb <;> rw [htwelve] at hb
  · exact .inr ⟨hb, _, rfl⟩
  · have h1 : c.decRemain.toNat = 1 := by
      dsimp only at h0
      bv_omega
    refine .inl ⟨hb, .inr (.inr (.inr ⟨rfl, Nat.zero_le _, h0, ?_⟩)), rfl⟩
    dsimp [payloadByte]
    omega
  · have h1 : c.decRemain.toNat ≠ 1 := by
      dsimp only at h0
      bv_omega
    refine .inl ⟨hb, .inr (.inr (.inl ⟨hp, hf, ?_⟩)), rfl⟩
    dsimp [payloadByte]
    omega

/-- A stored-CRC byte stays in the chunk, reports its tag at `k = 12`, or gives the verdict (R612, R613). -/
theorem feedByte_inChunk_crc {c : Ccb} (b : Byte) (hp : c.decPhase = .crc) (hf : c.decFpos.toNat ≤ 3)
    (hrem : c.decRemain = 0) (hk : 8 + c.chLen.toNat + c.decFpos.toNat = chunkBytes c) :
    (¬reportsTag c ∧ staysInChunk b c) ∨ (reportsTag c ∧ ∃ d, feedByte b c = enterError .invalidChunkType d) ∨
    (¬reportsTag c ∧ chunkBytes c = 11 + c.chLen.toNat ∧ givesVerdict b c) := by
  have htwelve : c.chLen.toNat + (c.decFpos.toNat + 1) = 4 ↔ 8 + c.chLen.toNat + c.decFpos.toNat = 11 := by omega
  have hlast (h3 : c.decFpos = 3) : 8 + c.chLen.toNat + c.decFpos.toNat = 11 + c.chLen.toNat := by
    have : c.decFpos.toNat = 3 := congrArg BitVec.toNat h3
    omega
  rw [staysInChunk, givesVerdict, inChunk_iff, reportsTag, ← hk, feedByte_crc b hp]
  obtain ⟨hb, e⟩ | ⟨hb, h3, e⟩ | ⟨hb, h3, hm, e⟩ | ⟨hb, h3, hm, e⟩ :=
    crcFieldStep_cases b { c with decCount := c.decCount + 1 } <;> rw [e] <;> dsimp only at hb <;> rw [htwelve] at hb
  · exact .inr (.inl ⟨hb, _, rfl⟩)
  · obtain ⟨hadd, hlt⟩ := fpos_add_one h3 hf
    exact .inl ⟨hb, .inr (.inr (.inr ⟨hp, hadd ▸ hlt, hrem, congrArg (8 + c.chLen.toNat + ·) hadd⟩)), rfl⟩
  · exact .inr (.inr ⟨hb, hlast h3, .inr ⟨rfl, rfl, rfl, rfl, hm⟩⟩)
  · exact .inr (.inr ⟨hb, hlast h3, .inl ⟨_, rfl⟩⟩)

/-- One byte inside a chunk: the chunk goes on with one more byte, or its 12th byte reports a bad tag, or its last byte
gives the verdict. -/
theorem feedByte_inChunk {c : Ccb} (b : Byte) (h : c.inChunk) :
    (¬reportsTag c ∧ staysInChunk b c) ∨ (reportsTag c ∧ ∃ d, feedByte b c = enterError .invalidChunkType d) ∨
    (¬reportsTag c ∧ chunkBytes c = 11 + c.chLen.toNat ∧ givesVerdict b c) := by
  obtain ⟨hp, hf, hk⟩ | ⟨hp, hf, hk⟩ | ⟨hp, hf, hrem, hlen, hk⟩ | ⟨hp, hf, hrem, hk⟩ := (inChunk_iff c _).mp ⟨h, rfl⟩
  · exact .inl ⟨fun hr => by have := hr.2; omega, staysInChunk_len b hp hf hk⟩
  · exact .inl ⟨fun hr => by have := hr.2; omega, staysInChunk_type b hp hf hk⟩
  · exact (feedByte_inChunk_payload b hp hf hrem hlen hk).imp_right .inl
  · exact feedByte_inChunk_crc b hp hf hrem hk

/-- After the header, a byte keeps the length and the verdict on the tag (R611, R612). -/
theorem feedByte_body (b : Byte) {c : Ccb} (h : c.decPhase = .payload ∨ c.decPhase = .crc) :
    (feedByte b c).chLen = c.chLen ∧ (feedByte b c).decTagBad = c.decTagBad := by
  obtain hp | hp := h
  · rw [feedByte_payload b hp]
    obtain ⟨-, e⟩ | ⟨-, -, e⟩ | ⟨-, -, e⟩ := payloadStep_cases b { c with decCount := c.decCount + 1 } <;>
      rw [e] <;> exact ⟨rfl, rfl⟩
  · rw [feedByte_crc b hp]
    obtain ⟨-, e⟩ | ⟨-, -, e⟩ | ⟨-, -, -, e⟩ | ⟨-, -, -, e⟩ :=
      crcFieldStep_cases b { c with decCount := c.decCount + 1 } <;> rw [e] <;> exact ⟨rfl, rfl⟩

/-- A bad tag becomes pending in the type field alone (R609, R610). -/
theorem feedByte_decTagBad {c : Ccb} {b : Byte} (h : c.inChunk) (hbad : (feedByte b c).decTagBad = true) :
    c.decTagBad = true ∨ 4 ≤ chunkBytes c ∧ chunkBytes c < 8 := by
  obtain ⟨hp, -⟩ | ⟨-, hf, hk⟩ | ⟨hp, -⟩ | ⟨hp, -⟩ := (inChunk_iff c _).mp ⟨h, rfl⟩
  · rw [feedByte_len b hp] at hbad
    obtain ⟨-, e⟩ | ⟨-, -, e⟩ | ⟨-, e⟩ := lenStep_cases b c.decCount { c with decCount := c.decCount + 1 } <;>
      rw [e] at hbad
    · cases hbad
    · exact .inl hbad
    · exact .inl hbad
  · omega
  · exact .inl ((feedByte_body b (.inl hp)).2 ▸ hbad)
  · exact .inl ((feedByte_body b (.inr hp)).2 ▸ hbad)

/-! ### The reachable-state invariants (R636) -/

/-- R636 for one phase: what DEC_MODE, DEC_FPOS, DEC_REMAIN, a pending bad tag and the stored CRC may be in it. -/
def Ccb.phaseInv (c : Ccb) : Phase → Prop
  | .idle => c.decFpos = 0 ∧ c.decTagBad = false ∧ c.decMode = false
  | .sig => c.decTagBad = false
  | .len | .type | .payload | .crc => c.inChunk ∧ (c.decTagBad = true → 4 ≤ chunkBytes c ∧ chunkBytes c < 12)
  | .ready => c.decFpos = 0 ∧ c.decTagBad = false ∧ c.chCrcStored = chCrcCalc c
  | .done => c.decFpos = 0 ∧ c.decTagBad = false
  | .error => c.decFpos = 0

/-- R636 in the form the steps use: DEC_ERR, and what the phase at hand asks for. -/
theorem reachableInv_iff (c : Ccb) :
    c.reachableInv ↔ (c.decErr ≠ .noError ↔ c.decPhase = .error) ∧ c.phaseInv c.decPhase := by
  cases hp : c.decPhase <;>
    simp [Ccb.reachableInv, Ccb.errMatchesPhase, Ccb.tagBadPending, Ccb.fposInField, Ccb.remainInRange,
      Ccb.readyVerified, Ccb.idleModeClear, hp, chCrcCalc, Ccb.phaseInv, Ccb.inChunk, chunkBytes]
  -- what is left is where `k` bounds a pending bad tag, on naturals
  all_goals grind [BitVec.le_def]

theorem reachableInv_of_phase {c : Ccb} {p : Phase} (hp : c.decPhase = p)
    (herr : c.decErr ≠ .noError ↔ p = .error) (h : c.phaseInv p) : c.reachableInv := by
  rw [reachableInv_iff, hp]
  exact ⟨herr, h⟩

/-- The phases inside a chunk have one form of the invariant. -/
theorem phaseInv_of_mem {c : Ccb} {p : Phase} (hp : p ∈ [Phase.len, .type, .payload, .crc]) :
    c.phaseInv p ↔ c.inChunk ∧ (c.decTagBad = true → 4 ≤ chunkBytes c ∧ chunkBytes c < 12) := by
  cases p <;> simp [Ccb.phaseInv] at hp ⊢

/-- EnterError meets the invariants from every state (R606, R636). -/
theorem reachableInv_enterError {e : DecErr} (he : e ≠ .noError) (c : Ccb) : (enterError e c).reachableInv :=
  reachableInv_of_phase (p := .error) rfl (iff_of_true he rfl) rfl

/-- DecInit meets the invariants from every state (R605, R636). -/
theorem reachableInv_decInit {p : Phase × Bool} (h : p ∈ [(Phase.sig, true), (.len, false), (.idle, false)]) (c : Ccb) :
    (decInit p.1 p.2 c).reachableInv := by
  simp only [List.mem_cons, List.not_mem_nil, or_false] at h
  obtain rfl | rfl | rfl := h
  · exact reachableInv_of_phase (p := .sig) rfl (by simp) rfl
  · refine reachableInv_of_phase (p := .len) rfl (by simp) ?_
    exact ⟨(inChunk_boundary rfl rfl).1, nofun⟩
  · exact reachableInv_of_phase (p := .idle) rfl (by simp) ⟨rfl, rfl, rfl⟩

/-- The invariants speak of the decoder's elements alone. -/
theorem reachableInv_of_sameDecoder {c d : Ccb} (h : d.sameDecoder c) (hc : c.reachableInv) : d.reachableInv := by
  obtain ⟨hphase, hmode, hfpos, hbad, herr, -, hrem, hcrc, hlen, -, hstored, -⟩ := h
  simpa only [Ccb.reachableInv, Ccb.errMatchesPhase, Ccb.fposInField, Ccb.remainInRange, Ccb.tagBadPending,
    Ccb.readyVerified, Ccb.idleModeClear, hphase, hmode, hfpos, hbad, herr, hrem, hcrc, hlen, hstored] using hc

/-- A signature byte keeps the invariants (R608). -/
theorem reachableInv_feedByte_sig {c : Ccb} (b : Byte) (hp : c.decPhase = .sig) (hc : c.reachableInv) :
    (feedByte b c).reachableInv := by
  obtain ⟨herr, hbad⟩ := (reachableInv_iff c).mp hc
  rw [hp] at herr hbad
  rw [feedByte_sig b hp]
  obtain ⟨-, e⟩ | ⟨-, -, e⟩ | ⟨-, -, e⟩ := sigStep_cases b { c with decCount := c.decCount + 1 } <;> rw [e]
  · exact reachableInv_enterError (by decide) _
  · refine reachableInv_of_phase (p := .len) rfl (by simpa using herr) ?_
    exact ⟨(inChunk_boundary rfl rfl).1, fun h => absurd (hbad.symm.trans h) nofun⟩
  · exact reachableInv_of_phase (p := .sig) hp herr hbad

/-- A byte inside a chunk keeps the invariants: a bad tag pending at `k = 11` is reported (R613). -/
theorem reachableInv_feedByte_inChunk {c : Ccb} (b : Byte) (hp : c.decPhase ∈ [Phase.len, .type, .payload, .crc])
    (hc : c.reachableInv) : (feedByte b c).reachableInv := by
  obtain ⟨herr, hinv⟩ := (reachableInv_iff c).mp hc
  obtain ⟨hin, hbad⟩ := (phaseInv_of_mem hp).mp hinv
  have hnoerr : ¬c.decErr ≠ .noError := fun h => by simp [herr.mp h] at hp
  obtain ⟨hk, ⟨hin', hk'⟩, e⟩ | ⟨-, d, e⟩ | ⟨hk, hlast, ⟨d, e⟩ | ⟨hp', hf', hb', e, hcrc⟩⟩ := feedByte_inChunk b hin
  · refine reachableInv_of_phase rfl (iff_of_false (e ▸ hnoerr) fun h => ?_)
      ((phaseInv_of_mem hin'.1).mpr ⟨hin', fun hb => ?_⟩)
    · simp [h, Ccb.inChunk] at hin'
    · rw [hk']
      obtain hb | hk4 := feedByte_decTagBad hin hb
      · have := hbad hb
        have : chunkBytes c ≠ 11 := fun h => hk ⟨hb, h⟩
        omega
      · omega
  · rw [e]; exact reachableInv_enterError (by decide) d
  · rw [e]; exact reachableInv_enterError (by decide) d
  · refine reachableInv_of_phase hp' (iff_of_false (e ▸ hnoerr) nofun) ⟨hf', ?_, hcrc⟩
    rw [hb']
    refine Bool.eq_false_of_not_eq_true fun hb => hk ⟨hb, ?_⟩
    have := hbad hb
    omega

/-- Every access keeps the reachable-state invariants. -/
theorem exec_keeps_reachableInv {i : Instr} {s t : State} (hs : s.ccb.reachableInv) (h : exec i s = .next t) :
    t.ccb.reachableInv := by
  obtain ⟨herr, hinv⟩ := (reachableInv_iff s.ccb).mp hs
  obtain hsame | ⟨-, e | ⟨p, hp, e⟩⟩ | ⟨hp, hf, e⟩ | ⟨-, err, hne, e⟩ | ⟨hp, e⟩ | ⟨ha, data, -, e⟩ :=
    exec_decoder_cases h
  · exact reachableInv_of_sameDecoder hsame hs
  · rw [e]; decide
  · rw [e]; exact reachableInv_decInit hp s.ccb
  · rw [hp] at herr hinv
    refine e ▸ reachableInv_of_phase (p := .done) rfl (by simpa using herr) ⟨hf, ?_⟩
    refine Bool.eq_false_of_not_eq_true fun hb => ?_
    have := hinv.2 hb
    simp [chunkBytes, hp, hf] at this
  · rw [e]; exact reachableInv_enterError hne _
  · rw [hp] at herr hinv
    refine e ▸ reachableInv_of_phase (p := .len) rfl (by simpa using herr) ?_
    exact ⟨(inChunk_boundary rfl rfl).1, fun h => absurd (hinv.2.1.symm.trans h) nofun⟩
  · rw [e]
    by_cases hsig : s.ccb.decPhase = .sig
    · exact reachableInv_feedByte_sig _ hsig hs
    · refine reachableInv_feedByte_inChunk _ ?_ hs
      simpa [accepting_iff_mem, hsig] using ha

/-- Settles O52: each item is evaluated on the reset values. -/
theorem resetMeetsTheInvariants : Obligations.ResetMeetsTheInvariants := by
  unfold Obligations.ResetMeetsTheInvariants
  decide

/-- Settles O50: the invariants hold at reset and every access keeps them. -/
theorem stepKeepsReachableInvariants : Obligations.StepKeepsReachableInvariants :=
  fun _ _ => step_keeps (P := Ccb.reachableInv) resetMeetsTheInvariants.1 exec_keeps_reachableInv

/-! ### READY and the final phases (R633, R631) -/

/-- Settles O58: no access but a restart has an effect on the decoder in a phase that neither accepts bytes nor is
READY. -/
theorem finalPhasesAreLeftOnlyByRestart : Obligations.FinalPhasesAreLeftOnlyByRestart := by
  intro i s t h hfinal hi
  have hclosed : accepting s.ccb.decPhase = false ∧ s.ccb.decPhase ≠ .len ∧ s.ccb.decPhase ≠ .ready := by
    obtain hp | hp := hfinal <;> rw [hp] <;> decide
  obtain ⟨hacc, hlen, hready⟩ := hclosed
  obtain hsame | ⟨hr, -⟩ | ⟨hp, -⟩ | ⟨ha, -⟩ | ⟨hp, -⟩ | ⟨ha, -⟩ := exec_decoder_cases h
  · exact hsame
  · exact absurd hr hi
  · exact absurd hp hlen
  · exact absurd (hacc.symm.trans ha) nofun
  · exact absurd hp hready
  · exact absurd (hacc.symm.trans ha) nofun

/-- A byte enters READY and advances CH_COUNT as the fourth of a matching stored CRC, or does neither (R612). -/
theorem feedByte_ready (b : Byte) (c : Ccb) :
    (c.decPhase = .crc ∧ c.decFpos = 3 ∧ (feedByte b c).decPhase = .ready ∧
      (feedByte b c).chCrcStored = (feedByte b c).decCrc ^^^ 0xFFFFFFFF ∧ (feedByte b c).decCrc = c.decCrc ∧
      (feedByte b c).chCount = c.chCount + 1) ∨
    ((feedByte b c).chCount = c.chCount ∧ ((feedByte b c).decPhase = .ready → c.decPhase = .ready)) := by
  obtain ⟨-, e⟩ | ⟨hp, e⟩ | ⟨hp, e⟩ | ⟨hp, e⟩ | ⟨hp, e⟩ | ⟨hp, e⟩ := feedByte_cases b c <;> rw [e]
  · exact .inr ⟨rfl, id⟩
  · obtain ⟨-, e⟩ | ⟨-, -, e⟩ | ⟨-, -, e⟩ := sigStep_cases b { c with decCount := c.decCount + 1 } <;> rw [e] <;>
      exact .inr ⟨rfl, by simp [hp]⟩
  · obtain ⟨-, e⟩ | ⟨-, -, e⟩ | ⟨-, e⟩ :=
      lenStep_cases b c.decCount { c with decCount := c.decCount + 1 } <;> rw [e] <;> exact .inr ⟨rfl, by simp [hp]⟩
  · obtain ⟨-, e⟩ | ⟨-, -, e⟩ | ⟨-, -, e⟩ := typeStep_cases b { c with decCount := c.decCount + 1 } <;> rw [e] <;>
      exact .inr ⟨rfl, by simp [hp, typeByte]⟩
  · obtain ⟨-, e⟩ | ⟨-, -, e⟩ | ⟨-, -, e⟩ := payloadStep_cases b { c with decCount := c.decCount + 1 } <;> rw [e] <;>
      exact .inr ⟨rfl, by simp [hp, payloadByte]⟩
  · obtain ⟨-, e⟩ | ⟨-, -, e⟩ | ⟨-, h3, hm, e⟩ | ⟨-, -, -, e⟩ :=
      crcFieldStep_cases b { c with decCount := c.decCount + 1 } <;> rw [e]
    · exact .inr ⟨rfl, by simp⟩
    · exact .inr ⟨rfl, by simp [hp, crcFieldByte]⟩
    · exact .inl ⟨hp, h3, rfl, hm, rfl, rfl⟩
    · exact .inr ⟨rfl, by simp⟩

/-- Settles O57: of the decoder's accesses only a byte can enter READY (`feedByte_ready`) and only a restart can clear
CH_COUNT. -/
theorem readyOnlyThroughAMatchingCrc : Obligations.ReadyOnlyThroughAMatchingCrc := by
  intro i s t h
  obtain ⟨hphase, -, -, -, -, -, -, -, -, -, -, -, hcount⟩ | ⟨hi, e | ⟨⟨p, mode⟩, hp, e⟩⟩ | ⟨-, -, e⟩ | ⟨-, _, -, e⟩ |
    ⟨-, e⟩ | ⟨-, data, hi, e⟩ := exec_decoder_cases h
  · exact ⟨fun hs ht => absurd (hphase ▸ ht) hs, fun hne => absurd hcount hne⟩
  · rw [e]; exact ⟨nofun, fun _ => .inr ⟨hi, rfl⟩⟩
  · rw [e]
    refine ⟨fun _ (hready : p = .ready) => ?_, fun _ => .inr ⟨hi, rfl⟩⟩
    simp [hready] at hp
  · rw [e]; exact ⟨nofun, fun hne => absurd rfl hne⟩
  · rw [e]; exact ⟨nofun, fun hne => absurd rfl hne⟩
  · rw [e]; exact ⟨nofun, fun hne => absurd rfl hne⟩
  · rw [e]
    obtain ⟨hp, hf, hready, hcrc, hkept, hcount⟩ | ⟨hcount, hready⟩ := feedByte_ready (byteOperand data) s.ccb
    · exact ⟨fun _ _ => ⟨⟨data, hi⟩, hp, hf, hcrc, hkept, hcount⟩, fun _ => .inl ⟨by rw [hp]; nofun, hready⟩⟩
    · exact ⟨fun hs ht => absurd (hready ht) hs, fun hne => absurd hcount hne⟩

/-! ### The signature field (R608, R601) -/

/-- Bytes outside the accepting phases leave every element as it was but OVF (R607). -/
theorem feedBytes_dropped {c : Ccb} (h : accepting c.decPhase = false) (bs : List Byte) :
    ∃ v, feedBytes c bs = { c with ovf := v } := by
  induction bs generalizing c with
  | nil => exact ⟨c.ovf, rfl⟩
  | cons b bs ih =>
    rw [feedBytes_cons, feedByte_dropped b h]
    exact ih (c := { c with ovf := true }) h

/-- Once in ERROR, the failure that came first stays (R631). -/
theorem feedBytes_error {c : Ccb} {e : DecErr} (hp : c.decPhase = .error) (he : c.decErr = e) (bs : List Byte) :
    (feedBytes c bs).decPhase = .error ∧ (feedBytes c bs).decErr = e := by
  obtain ⟨v, h⟩ := feedBytes_dropped (by rw [hp]; rfl) bs
  rw [h]
  exact ⟨hp, he⟩

/-- The signature bytes still to come at a field position. -/
def sigRest (f : BitVec 3) : List Byte := Config.pngSig.toList.drop f.toNat

theorem sigRest_zero : sigRest 0 = [0x89, 0x50, 0x4E, 0x47, 0x0D, 0x0A, 0x1A, 0x0A] := by decide

theorem sigRest_eq (f : BitVec 3) : sigRest f = sigByte f :: if f = 7 then [] else sigRest (f + 1) := by
  revert f; decide

/-- Bytes fed in SIG, at most to the signature's end: the whole signature leads to LEN, a proper beginning of it stays
in SIG, anything else is a BAD_SIGNATURE. -/
theorem feedBytes_signature (bs : List Byte) {c : Ccb} (hp : c.decPhase = .sig)
    (hlen : bs.length ≤ (sigRest c.decFpos).length) :
    (bs = sigRest c.decFpos ∧ feedBytes c bs =
      { c with decPhase := .len, decFpos := 0, decCount := c.decCount + BitVec.ofNat 32 bs.length }) ∨
    (bs ≠ sigRest c.decFpos ∧ bs <+: sigRest c.decFpos ∧ feedBytes c bs =
      { c with decFpos := c.decFpos + BitVec.ofNat 3 bs.length, decCount := c.decCount + BitVec.ofNat 32 bs.length }) ∨
    (¬bs <+: sigRest c.decFpos ∧ (feedBytes c bs).decPhase = .error ∧ (feedBytes c bs).decErr = .badSignature) := by
  induction bs generalizing c with
  | nil => exact .inr (.inl ⟨by rw [sigRest_eq]; nofun, List.nil_prefix, by simp⟩)
  | cons b bs ih =>
    rw [feedBytes_cons, feedByte_sig b hp]
    obtain ⟨hb, e⟩ | ⟨hb, h7, e⟩ | ⟨hb, h7, e⟩ := sigStep_cases b { c with decCount := c.decCount + 1 } <;> rw [e] <;>
      dsimp only at hb <;> rw [sigRest_eq] at hlen ⊢
    · exact .inr (.inr ⟨fun h => hb (List.cons_prefix_cons.mp h).1, feedBytes_error rfl rfl _⟩)
    · dsimp only at h7
      rw [if_pos h7] at hlen ⊢
      have hbs : bs = [] := List.eq_nil_of_length_eq_zero (by simpa using hlen)
      exact .inl ⟨by rw [hb, hbs], by rw [hbs]; rfl⟩
    · rw [if_neg h7] at hlen ⊢
      subst hb
      simpa [List.cons_prefix_cons, BitVec.ofNat_add, BitVec.add_assoc, BitVec.add_comm (BitVec.ofNat _ bs.length)]
        using ih (c := { c with decFpos := c.decFpos + 1, decCount := c.decCount + 1 }) hp
          (Nat.le_of_succ_le_succ hlen)

/-- Settles O45: START_FILE expects the first signature byte, and `feedBytes_signature` says what the bytes then do. -/
theorem signatureGatesTheFile : Obligations.SignatureGatesTheFile := by
  intro bytes s hlen
  obtain ⟨t, ht, hccb, -⟩ := execAll_feed bytes { s with ccb := decInit .sig true s.ccb, log := s.log ++ [.written] }
  refine ⟨t, (execAll_cons_next rfl).trans ht, ?_⟩
  rw [hccb]
  dsimp only
  rw [← sigRest_zero]
  obtain ⟨rfl, e⟩ | ⟨hne, hpre, e⟩ | ⟨hpre, hp, he⟩ := feedBytes_signature bytes (c := decInit .sig true s.ccb) rfl hlen
  · rw [e]
    exact ⟨fun _ => ⟨rfl, rfl, rfl, rfl⟩, fun h => absurd rfl h, fun h => absurd List.prefix_rfl h⟩
  · rw [e]
    have hshort : bytes.length < 8 := Nat.lt_of_le_of_ne hlen fun h => hne (hpre.eq_of_length h)
    exact ⟨fun h => absurd h hne, fun _ _ => ⟨rfl, by simpa using hshort⟩, fun h => absurd hpre h⟩
  · exact ⟨fun h => absurd (h ▸ List.prefix_rfl) hpre, fun _ h => absurd h hpre, fun _ => ⟨hp, he⟩⟩

/-! ### The header of a chunk (R609, R610) -/

/-- Settles O46: `execAll_feed` feeds the eight bytes, and `feedBytes_header` says what that makes of the elements. -/
theorem headerBytesFillLengthAndTag : Obligations.HeaderBytesFillLengthAndTag := by
  intro len tag s hp hf
  obtain ⟨t, ht, hccb, -⟩ := execAll_feed (wireBytes len ++ wireBytes tag) s
  exact ⟨t, ht, hccb.trans (feedBytes_header hp hf len tag)⟩

/-! ### Bytes inside a chunk, by their number (R604, R613, R616) -/

/-- A byte that is neither a 12th byte under a bad tag nor the last of its chunk leaves the decoder in the chunk. -/
theorem feedByte_stays {c : Ccb} (b : Byte) (h : c.inChunk) (hbad : ¬reportsTag c)
    (hlast : chunkBytes c ≠ 11 + c.chLen.toNat) :
    (feedByte b c).inChunk ∧ chunkBytes (feedByte b c) = chunkBytes c + 1 := by
  obtain ⟨-, hin, -⟩ | ⟨hb, -⟩ | ⟨-, hl, -⟩ := feedByte_inChunk b h
  · exact hin
  · exact absurd hb hbad
  · exact absurd hl hlast

/-- Up to 11 bytes of any chunk stay in it. -/
theorem feedBytes_short (bs : List Byte) {c : Ccb} (h : c.inChunk) (hk : chunkBytes c + bs.length ≤ 11) :
    (feedBytes c bs).inChunk ∧ chunkBytes (feedBytes c bs) = chunkBytes c + bs.length := by
  induction bs generalizing c with
  | nil => exact ⟨h, rfl⟩
  | cons b bs ih =>
    rw [List.length_cons] at hk ⊢
    obtain ⟨hin, hk'⟩ := feedByte_stays b h (by omega) (by omega)
    obtain ⟨hin', hk''⟩ := ih hin (by omega)
    exact ⟨hin', by rw [feedBytes_cons, hk'', hk']; omega⟩

/-- After the header of an alphabetic tag, every byte but the chunk's last stays in the chunk. -/
theorem feedBytes_body (bs : List Byte) {c : Ccb} (h : c.inChunk) (hk : 8 ≤ chunkBytes c) (htag : c.decTagBad = false)
    (hlast : chunkBytes c + bs.length ≤ 11 + c.chLen.toNat) :
    (feedBytes c bs).inChunk ∧ chunkBytes (feedBytes c bs) = chunkBytes c + bs.length := by
  induction bs generalizing c with
  | nil => exact ⟨h, rfl⟩
  | cons b bs ih =>
    rw [List.length_cons] at hlast ⊢
    obtain ⟨hin, hk'⟩ := feedByte_stays b h (by simp [htag]) (by omega)
    obtain ⟨hlen, hbad⟩ := feedByte_body b (decPhase_of_eight_le h hk)
    obtain ⟨hin', hk''⟩ := ih hin (by omega) (hbad.trans htag) (by rw [hlen]; omega)
    exact ⟨hin', by rw [feedBytes_cons, hk'', hk']; omega⟩

/-- The 12th byte of a chunk under a bad tag reports it (R613). -/
theorem feedByte_reports {c : Ccb} (b : Byte) (h : c.inChunk) (hbad : c.decTagBad = true) (hk : chunkBytes c = 11) :
    ∃ d, feedByte b c = enterError .invalidChunkType d := by
  obtain ⟨hgo, -⟩ | ⟨-, hd⟩ | ⟨hgo, -⟩ := feedByte_inChunk b h
  · exact absurd ⟨hbad, hk⟩ hgo
  · exact hd
  · exact absurd ⟨hbad, hk⟩ hgo

/-- After the header of a bad tag, the bytes up to the chunk's 12th end in its report. -/
theorem feedBytes_reports (bs : List Byte) {c : Ccb} (h : c.inChunk) (hk : 8 ≤ chunkBytes c) (hk' : chunkBytes c < 12)
    (hbad : c.decTagBad = true) (hlen : chunkBytes c + bs.length = 12) :
    ∃ d, feedBytes c bs = enterError .invalidChunkType d := by
  induction bs generalizing c with
  | nil => exact absurd hlen hk'.ne
  | cons b bs ih =>
    rw [List.length_cons] at hlen
    by_cases hlast : chunkBytes c = 11
    · rw [List.eq_nil_of_length_eq_zero (l := bs) (by omega)]
      exact feedByte_reports b h hbad hlast
    · obtain ⟨hin, hk'⟩ := feedByte_stays b h (fun h => hlast h.2) (by omega)
      obtain ⟨-, hbad'⟩ := feedByte_body b (decPhase_of_eight_le h hk)
      rw [feedBytes_cons]
      exact ih hin (by omega) (by omega) (hbad'.trans hbad) (by omega)

/-- END inside a chunk, after its first byte (R616, D14). -/
theorem endInput_inChunk {c : Ccb} (h : c.inChunk) (hk : 1 ≤ chunkBytes c) :
    endInput c = enterError (if chunkBytes c < 12 then .chunkTooShort else .truncated) c := by
  obtain ⟨hp, hf, hk'⟩ | ⟨hp, hf, hk'⟩ | ⟨hp, -⟩ | ⟨hp, -⟩ := (inChunk_iff c _).mp ⟨h, rfl⟩
  · have h0 : c.decFpos ≠ 0 := fun h0 => by simp [h0] at hk'; omega
    rw [endInput_len hp h0, if_pos (by omega)]
  · rw [endInput_type hp, if_pos (by omega)]
  · exact endInput_body (.inl hp)
  · exact endInput_body (.inr hp)

/-- The header leaves the decoder in its chunk, with eight bytes (R604). -/
theorem inChunk_header {c : Ccb} (hp : c.decPhase = .len) (hf : c.decFpos = 0) (len tag : Word) :
    (feedBytes c (wireBytes len ++ wireBytes tag)).inChunk ∧
      chunkBytes (feedBytes c (wireBytes len ++ wireBytes tag)) = 8 := by
  obtain ⟨hin, hk⟩ := inChunk_boundary hp hf
  obtain ⟨hin', hk'⟩ := feedBytes_short (wireBytes len ++ wireBytes tag) hin (by simp [hk, wireBytes])
  exact ⟨hin', by rw [hk', hk]; rfl⟩

/-- From a chunk boundary, 12 bytes whose tag has a non-letter end in INVALID_CHUNK_TYPE (R613). -/
theorem feedBytes_twelve {c : Ccb} (hp : c.decPhase = .len) (hf : c.decFpos = 0) (len : Word) {tag : Word}
    (htag : (wireBytes tag).all isAlpha = false) {bs : List Byte} (hlen : bs.length = 4) :
    ∃ d, feedBytes c (wireBytes len ++ wireBytes tag ++ bs) = enterError .invalidChunkType d := by
  obtain ⟨hin, hk⟩ := inChunk_header hp hf len tag
  rw [feedBytes_append]
  exact feedBytes_reports bs hin hk.ge (by omega) (by rw [feedBytes_header hp hf, htag]; rfl) (by omega)

/-- From a chunk boundary, an input of 1 to 11 bytes ends in CHUNK_TOO_SHORT (R616, R803). -/
theorem endInput_short {c : Ccb} (hp : c.decPhase = .len) (hf : c.decFpos = 0) {bs : List Byte} (h1 : 1 ≤ bs.length)
    (h12 : bs.length < 12) :
    (feedBytes c bs).inChunk ∧ endInput (feedBytes c bs) = enterError .chunkTooShort (feedBytes c bs) := by
  obtain ⟨hin, hk⟩ := inChunk_boundary hp hf
  obtain ⟨hin', hk'⟩ := feedBytes_short bs hin (by omega)
  exact ⟨hin', by rw [endInput_inChunk hin' (by omega), if_pos (by omega)]⟩

/-- Settles O48: `feedBytes_twelve` for the whole 12 bytes, `endInput_short` for a part of them. -/
theorem badTagIsReportedAtTheTwelfthByte : Obligations.BadTagIsReportedAtTheTwelfthByte := by
  intro len tag after n s hp hf htag bytes
  constructor
  · obtain ⟨t, ht, hccb, -⟩ := execAll_feed bytes s
    obtain ⟨d, hd⟩ := feedBytes_twelve hp hf len htag (bs := wireBytes after) rfl
    exact ⟨t, ht, by rw [hccb, hd]; exact ⟨rfl, rfl⟩⟩
  · intro h1 h12
    obtain ⟨t, ht, hccb, -⟩ := execAll_feed (bytes.take n) s
    have hlen : (bytes.take n).length = n := by
      rw [List.length_take]
      exact Nat.min_eq_left h12.le
    obtain ⟨-, e⟩ := endInput_short hp hf (bs := bytes.take n) (by omega) (by omega)
    refine ⟨_, (execAll_append_next ht).trans (execAll_cons_next (exec_cmdDecEnd t)), ?_⟩
    dsimp only
    rw [hccb, e]
    exact ⟨rfl, rfl⟩

/-! ### The source's parse of one chunk, by the shape of the slice (R613, R803) -/

/-- Four bytes are the wire bytes of a word (R204). -/
theorem exists_wireBytes {bs : List Byte} (h : bs.length = 4) : ∃ w, bs = wireBytes w := by
  obtain ⟨a, b, c, d, rfl⟩ := List.length_eq_four.mp h
  refine ⟨a ++ b ++ c ++ d, ?_⟩
  simp only [wireBytes, wireByte0, wireByte1, wireByte2, wireByte3, List.cons.injEq, and_true]
  -- each byte is a part of the append: bit by bit
  refine ⟨?_, ?_, ?_, ?_⟩ <;> apply BitVec.eq_of_getLsbD_eq <;> intro i hi <;>
    simp only [BitVec.getLsbD_extractLsb', BitVec.getLsbD_append, hi] <;> grind

/-- A slice of 12 bytes or more is a length, a tag, and four bytes or more. -/
theorem exists_header {slice : List Byte} (h : 12 ≤ slice.length) :
    ∃ len tag rest, slice = wireBytes len ++ wireBytes tag ++ rest ∧ 4 ≤ rest.length := by
  obtain ⟨len, hlen⟩ := exists_wireBytes (bs := slice.take 4) (by rw [List.length_take]; omega)
  obtain ⟨tag, htag⟩ := exists_wireBytes (bs := (slice.drop 4).take 4) (by simp; omega)
  refine ⟨len, tag, slice.drop 8, ?_, by rw [List.length_drop]; omega⟩
  rw [← hlen, ← htag, List.append_assoc, ← List.drop_drop (i := 4) (j := 4), List.take_append_drop,
    List.take_append_drop]

theorem parseChunk_short (off : Word) {slice : List Byte} (h : slice.length < 12) :
    parseChunk off slice = .error .chunkTooShort := by
  simp only [parseChunk, if_pos h]

theorem parseChunk_header (off len tag : Word) {rest : List Byte} (h : 4 ≤ rest.length) :
    parseChunk off (wireBytes len ++ wireBytes tag ++ rest) =
      if !(wireBytes tag).all isAlpha then .error .invalidChunkType
      else if rest.length < len.toNat + 4 then .error .truncated
      else if bigEndian ((rest.drop len.toNat).take 4) ≠ crc32 (wireBytes tag ++ rest.take len.toNat) then
        .error .crcMismatch
      else .ok { len := len, type := tag, crc := bigEndian ((rest.drop len.toNat).take 4), offset := off } := by
  have htake : (wireBytes len ++ wireBytes tag ++ rest).take 4 = wireBytes len := rfl
  have hdrop : (wireBytes len ++ wireBytes tag ++ rest).drop 4 = wireBytes tag ++ rest := rfl
  have htag : (wireBytes tag ++ rest).take 4 = wireBytes tag := rfl
  have hrest : (wireBytes len ++ wireBytes tag ++ rest).drop 8 = rest := rfl
  have hlen : ¬(wireBytes len ++ wireBytes tag ++ rest).length < 12 := by simp [wireBytes]; omega
  simp only [parseChunk, if_neg hlen, htake, hdrop, htag, hrest, bigEndian_wireBytes]

/-- The bytes after a header that hold a payload and all four CRC bytes (R600). -/
theorem exists_payload {n : Nat} {rest : List Byte} (h : n + 4 ≤ rest.length) :
    ∃ payload stored tail, rest = payload ++ wireBytes stored ++ tail ∧ payload.length = n := by
  obtain ⟨stored, hstored⟩ := exists_wireBytes (bs := (rest.drop n).take 4) (by simp; omega)
  refine ⟨rest.take n, stored, rest.drop (n + 4), ?_, by rw [List.length_take]; omega⟩
  rw [← hstored, List.append_assoc, ← List.drop_drop, List.take_append_drop, List.take_append_drop]

/-- The source's parse of one chunk by the shape of the slice: too short, a bad tag, cut off, or a whole chunk, whose
CRC decides (R613, R803, D14). -/
theorem parseChunk_cases (off : Word) (slice : List Byte) :
    (slice.length < 12 ∧ parseChunk off slice = .error .chunkTooShort) ∨
    (∃ len tag rest, slice = wireBytes len ++ wireBytes tag ++ rest ∧ 4 ≤ rest.length ∧
      (wireBytes tag).all isAlpha = false ∧ parseChunk off slice = .error .invalidChunkType) ∨
    (∃ len tag rest, slice = wireBytes len ++ wireBytes tag ++ rest ∧ 4 ≤ rest.length ∧
      (wireBytes tag).all isAlpha = true ∧ rest.length < len.toNat + 4 ∧ parseChunk off slice = .error .truncated) ∨
    (∃ tag payload stored tail, payload.length < 2 ^ 32 ∧
      slice = wireBytes (BitVec.ofNat 32 payload.length) ++ wireBytes tag ++ payload ++ wireBytes stored ++ tail ∧
      (wireBytes tag).all isAlpha = true ∧
      parseChunk off slice =
        if stored = crc32 (wireBytes tag ++ payload) then
          .ok { len := BitVec.ofNat 32 payload.length, type := tag, crc := stored, offset := off }
        else .error .crcMismatch) := by
  by_cases h12 : slice.length < 12
  · exact .inl ⟨h12, parseChunk_short off h12⟩
  obtain ⟨len, tag, rest, rfl, hrest⟩ := exists_header (Nat.not_lt.mp h12)
  have hparse := parseChunk_header off len tag hrest
  cases htag : (wireBytes tag).all isAlpha
  · exact .inr (.inl ⟨len, tag, rest, rfl, hrest, htag, by rw [hparse, htag]; rfl⟩)
  rw [htag, Bool.not_true, if_neg Bool.false_ne_true] at hparse
  by_cases hlen : rest.length < len.toNat + 4
  · exact .inr (.inr (.inl ⟨len, tag, rest, rfl, hrest, htag, hlen, by rw [hparse, if_pos hlen]⟩))
  rw [if_neg hlen] at hparse
  obtain ⟨payload, stored, tail, rfl, hpayload⟩ := exists_payload (Nat.not_lt.mp hlen)
  have hlenEq : len = BitVec.ofNat 32 payload.length := by rw [hpayload, BitVec.ofNat_toNat, BitVec.setWidth_eq]
  have htake : (payload ++ wireBytes stored ++ tail).take payload.length = payload := by simp
  have hstored : ((payload ++ wireBytes stored ++ tail).drop payload.length).take 4 = wireBytes stored := by
    rw [List.append_assoc, List.drop_left]
    rfl
  rw [← hpayload, htake, hstored, bigEndian_wireBytes, ite_not] at hparse
  refine .inr (.inr (.inr ⟨tag, payload, stored, tail, hpayload ▸ len.isLt, ?_, htag, ?_⟩))
  · rw [hlenEq]; simp only [List.append_assoc]
  · rw [hparse, hlenEq]

/-! ### The host's procedure on the elements (R634) -/

/-- One round of the loop of R634, on the elements and the records. -/
def hostRound (r : Ccb × List ChunkRecord) (b : Byte) : Ccb × List ChunkRecord :=
  let c := feedByte b r.1
  if c.decPhase = .ready then ({ c with decPhase := .len, decFpos := 0 }, r.2 ++ [recordOf c]) else (c, r.2)

/-- The end of the procedure of R634, on the elements and the records. -/
def hostEnd (r : Ccb × List ChunkRecord) : Ccb × List ChunkRecord :=
  if r.1.decPhase = .error then r else (endInput r.1, r.2)

/-- The host's state as far as the source's parse speaks of it. -/
def onElements (r : State × List ChunkRecord) : Ccb × List ChunkRecord := (r.1.ccb, r.2)

/-- A sent access that completes has its effect (R8, R306). -/
theorem send_eq {i : Instr} {s t : State} (hi : i.wellFormed = true) (h : exec i s = .next t) : send s i = t := by
  simp only [send, serve, decode_encode hi, h]

theorem send_ccb {i : Instr} (s : State) {c : Ccb} (hi : i.wellFormed = true) (h : exec i s = completeWrite c s) :
    (send s i).ccb = c := by
  rw [send_eq hi (h.trans (completeWrite_eq c s))]

theorem feedRound_onElements (r : State × List ChunkRecord) (b : Byte) :
    hostRound (onElements r) b = onElements (feedRound r b) := by
  have hfeed : (send r.1 (.wrDecData8 (b.setWidth 32))).ccb = feedByte b r.1.ccb := by
    rw [send_ccb r.1 rfl (exec_wrDecData8 ..), byteOperand_setWidth]
  by_cases hready : (feedByte b r.1.ccb).decPhase = .ready
  · simp [feedRound, hostRound, onElements, hfeed, hready, send_ccb _ rfl (exec_cmdDecAck _)]
  · simp [feedRound, hostRound, onElements, hfeed, hready]

/-- The whole procedure, on the elements: `hostRound` on every byte, then `hostEnd`. -/
theorem hostParse_onElements {start : Instr} (buffer : List Byte) (s : State) {c : Ccb} (hi : start.wellFormed = true)
    (h : exec start s = completeWrite c s) :
    onElements (hostParse start buffer s) = hostEnd (buffer.foldl hostRound (c, [])) := by
  have hloop : onElements (buffer.foldl feedRound (send s start, [])) = buffer.foldl hostRound (c, []) := by
    rw [← List.foldl_hom onElements feedRound_onElements, onElements, send_ccb s hi h]
  rw [← hloop, hostParse]
  generalize buffer.foldl feedRound (send s start, []) = r
  by_cases herr : r.1.ccb.decPhase = .error
  · simp [hostEnd, onElements, herr]
  · simp [hostEnd, onElements, herr, send_ccb _ rfl (exec_cmdDecEnd _)]

/-- Bytes that do not end in READY have not been there: READY accepts no byte (R607). The host records nothing. -/
theorem foldl_hostRound (bs : List Byte) {c : Ccb} (recs : List ChunkRecord) (h : (feedBytes c bs).decPhase ≠ .ready) :
    bs.foldl hostRound (c, recs) = (feedBytes c bs, recs) := by
  induction bs generalizing c with
  | nil => rfl
  | cons b bs ih =>
    have hb : (feedByte b c).decPhase ≠ .ready := fun hr => by
      obtain ⟨v, hv⟩ := feedBytes_dropped (c := feedByte b c) (by rw [hr]; rfl) bs
      exact h (by rw [feedBytes_cons, hv]; exact hr)
    rw [List.foldl_cons, hostRound, if_neg hb]
    exact ih h

/-! ### The host's procedure against the source's parse (R634) -/

/-- The host's elements and records agree with a parse: the same chunks, DONE where it succeeds, ERROR with its failure
where it does not (R634). -/
def parseAgrees (r : Ccb × List ChunkRecord) (p : List ChunkRecord × Option DecErr) : Prop :=
  r.2 = p.1 ∧ (p.2 = none → r.1.decPhase = .done) ∧ (∀ e, p.2 = some e → r.1.decPhase = .error ∧ r.1.decErr = e)

/-- A failure while the bytes are fed (R606). -/
theorem parseAgrees_of_error {c : Ccb} {bs : List Byte} {e : DecErr} (recs : List ChunkRecord)
    (h : (feedBytes c bs).decPhase = .error ∧ (feedBytes c bs).decErr = e) :
    parseAgrees (hostEnd (bs.foldl hostRound (c, recs))) (recs, some e) := by
  rw [foldl_hostRound bs recs (by rw [h.1]; nofun), hostEnd, if_pos h.1]
  exact ⟨rfl, nofun, fun _ he => Option.some.inj he ▸ h⟩

/-- The accepting phases are neither READY nor ERROR (R603). -/
theorem ne_of_accepting {p : Phase} (h : accepting p = true) : p ≠ .ready ∧ p ≠ .error := by
  cases p <;> simp [accepting] at h ⊢

/-- A failure at the end of the input, with the decoder still accepting bytes (R616). -/
theorem parseAgrees_of_end {c : Ccb} {bs : List Byte} {e : DecErr} (recs : List ChunkRecord)
    (ha : accepting (feedBytes c bs).decPhase = true) (h : endInput (feedBytes c bs) = enterError e (feedBytes c bs)) :
    parseAgrees (hostEnd (bs.foldl hostRound (c, recs))) (recs, some e) := by
  obtain ⟨hready, herr⟩ := ne_of_accepting ha
  rw [foldl_hostRound bs recs hready, hostEnd, if_neg herr, h]
  exact ⟨rfl, nofun, fun _ he => ⟨rfl, Option.some.inj he⟩⟩

/-- From a chunk boundary, the bytes of a chunk with an alphabetic tag, without its last, stay in the chunk. -/
theorem feedBytes_unfinished {c : Ccb} (hp : c.decPhase = .len) (hf : c.decFpos = 0) {len tag : Word} {rest : List Byte}
    (htag : (wireBytes tag).all isAlpha = true) (hrest : rest.length < len.toNat + 4) :
    (feedBytes c (wireBytes len ++ wireBytes tag ++ rest)).inChunk ∧
      chunkBytes (feedBytes c (wireBytes len ++ wireBytes tag ++ rest)) = 8 + rest.length := by
  obtain ⟨hin, hk⟩ := inChunk_header hp hf len tag
  rw [feedBytes_append, ← hk]
  refine feedBytes_body rest hin hk.ge ?_ ?_
  · rw [feedBytes_header hp hf, htag]; rfl
  · rw [hk, feedBytes_header hp hf]; dsimp only; omega

/-- A whole chunk with its CRC, fed from a boundary: the host records it and is at the next boundary (R612, R617). -/
theorem foldl_hostRound_chunk {c : Ccb} (hp : c.decPhase = .len) (hf : c.decFpos = 0) {tag : Word}
    (htag : (wireBytes tag).all isAlpha = true) {payload : List Byte} (hlen : payload.length < 2 ^ 32) {stored : Word}
    (hcrc : stored = crc32 (wireBytes tag ++ payload)) (recs : List ChunkRecord) :
    (wireBytes (BitVec.ofNat 32 payload.length) ++ wireBytes tag ++ payload ++ wireBytes stored).foldl hostRound
        (c, recs) =
      ({ chunkFed tag stored payload c with decPhase := .len, chCount := c.chCount + 1 },
        recs ++ [{ len := BitVec.ofNat 32 payload.length, type := tag, crc := stored, offset := c.decCount }]) := by
  have hchunk := feedBytes_chunk hp hf htag hlen stored
  have hsplit : wireBytes (BitVec.ofNat 32 payload.length) ++ wireBytes tag ++ payload ++ wireBytes stored =
      wireBytes (BitVec.ofNat 32 payload.length) ++ wireBytes tag ++
        (payload ++ [wireByte0 stored, wireByte1 stored, wireByte2 stored]) ++ [wireByte3 stored] := by
    simp [wireBytes]
  rw [if_pos hcrc, hsplit, feedBytes_append _ _ [wireByte3 stored], feedBytes_cons, feedBytes_nil] at hchunk
  obtain ⟨hin, -⟩ := feedBytes_unfinished (len := BitVec.ofNat 32 payload.length) hp hf htag
    (rest := payload ++ [wireByte0 stored, wireByte1 stored, wireByte2 stored])
    (by rw [toNat_payloadLength hlen, List.length_append]; exact Nat.lt_succ_self _)
  obtain ⟨hready, -⟩ := ne_of_accepting (accepting_of_inChunk hin)
  rw [hsplit, List.foldl_append, foldl_hostRound _ _ hready, List.foldl_cons, List.foldl_nil, hostRound, hchunk]
  rfl

/-- From a chunk boundary, the host fails on a slice with what the source's parse of its first chunk fails with. -/
theorem parseAgrees_of_parseChunk_error {c : Ccb} (hp : c.decPhase = .len) (hf : c.decFpos = 0) {slice : List Byte}
    (hne : slice ≠ []) {off : Word} {e : DecErr} (h : parseChunk off slice = .error e) (recs : List ChunkRecord) :
    parseAgrees (hostEnd (slice.foldl hostRound (c, recs))) (recs, some e) := by
  obtain ⟨h12, he⟩ | ⟨len, tag, rest, rfl, h4, htag, he⟩ | ⟨len, tag, rest, rfl, h4, htag, hlen, he⟩ |
    ⟨tag, payload, stored, tail, hlen, rfl, htag, he⟩ := parseChunk_cases off slice <;> rw [he] at h
  · cases h
    obtain ⟨hin, hend⟩ := endInput_short hp hf (List.length_pos_iff.mpr hne) h12
    exact parseAgrees_of_end recs (accepting_of_inChunk hin) hend
  · cases h
    obtain ⟨d, hd⟩ := feedBytes_twelve hp hf len htag (bs := rest.take 4) (by simpa using h4)
    refine parseAgrees_of_error recs ?_
    rw [← List.take_append_drop 4 rest, ← List.append_assoc, feedBytes_append, hd]
    exact feedBytes_error rfl rfl _
  · cases h
    obtain ⟨hin, hk⟩ := feedBytes_unfinished hp hf htag hlen
    exact parseAgrees_of_end recs (accepting_of_inChunk hin)
      (by rw [endInput_inChunk hin (by omega), if_neg (by omega)])
  · split at h
    · cases h
    next hcrc =>
      cases h
      refine parseAgrees_of_error recs ?_
      rw [feedBytes_append, feedBytes_chunk hp hf htag hlen, if_neg hcrc]
      exact feedBytes_error rfl rfl _

/-- From a chunk boundary, the host records the chunk the source parses, and goes on after it from the next boundary. -/
theorem foldl_hostRound_of_parseChunk_ok {c : Ccb} (hp : c.decPhase = .len) (hf : c.decFpos = 0) {slice : List Byte}
    {r : ChunkRecord} (h : parseChunk c.decCount slice = .ok r) (recs : List ChunkRecord) :
    ∃ d : Ccb, d.decPhase = .len ∧ d.decFpos = 0 ∧ d.decCount = c.decCount + 12 + r.len ∧
      slice.foldl hostRound (c, recs) = (slice.drop (12 + r.len.toNat)).foldl hostRound (d, recs ++ [r]) := by
  obtain ⟨-, he⟩ | ⟨_, _, _, -, -, -, he⟩ | ⟨_, _, _, -, -, -, -, he⟩ |
    ⟨tag, payload, stored, tail, hlen, rfl, htag, he⟩ := parseChunk_cases c.decCount slice <;> rw [he] at h
  · cases h
  · cases h
  · cases h
  · split at h
    next hcrc =>
      cases h
      refine ⟨{ chunkFed tag stored payload c with decPhase := .len, chCount := c.chCount + 1 }, rfl, rfl, rfl, ?_⟩
      rw [List.foldl_append, foldl_hostRound_chunk hp hf htag hlen hcrc, toNat_payloadLength hlen,
        List.drop_left' (by simp [wireBytes]; omega)]
    · cases h

/-- The source's chunk loop on nothing. -/
theorem parseChunks_nil (n : Nat) (off : Word) : parseChunks n off [] = ([], none) := by
  cases n <;> rfl

theorem parseChunks_of_error {n : Nat} {off : Word} {slice : List Byte} (hne : slice ≠ []) {e : DecErr}
    (h : parseChunk off slice = .error e) : parseChunks (n + 1) off slice = ([], some e) := by
  cases slice with
  | nil => exact absurd rfl hne
  | cons b bs => simp only [parseChunks, h]

theorem parseChunks_of_ok {n : Nat} {off : Word} {slice : List Byte} (hne : slice ≠ []) {r : ChunkRecord}
    (h : parseChunk off slice = .ok r) :
    parseChunks (n + 1) off slice =
      (r :: (parseChunks n (off + 12 + r.len) (slice.drop (12 + r.len.toNat))).1,
        (parseChunks n (off + 12 + r.len) (slice.drop (12 + r.len.toNat))).2) := by
  cases slice with
  | nil => exact absurd rfl hne
  | cons b bs => simp only [parseChunks, h]

/-- Nothing after a chunk boundary: END leads to DONE (R616). -/
theorem parseAgrees_nil (n : Nat) {c : Ccb} (hp : c.decPhase = .len) (hf : c.decFpos = 0) (recs : List ChunkRecord) :
    parseAgrees (hostEnd (([] : List Byte).foldl hostRound (c, recs)))
      (recs ++ (parseChunks n c.decCount []).1, (parseChunks n c.decCount []).2) := by
  have herr : c.decPhase ≠ .error := by rw [hp]; nofun
  rw [parseChunks_nil, List.append_nil, List.foldl_nil, hostEnd, if_neg herr, endInput_boundary hp hf]
  exact ⟨rfl, fun _ => rfl, nofun⟩

/-- From a chunk boundary, the host's rounds on a slice agree with the source's chunk loop on it, chunk by chunk. -/
theorem parseAgrees_parseChunks (n : Nat) (slice : List Byte) (hn : slice.length ≤ n) {c : Ccb} (hp : c.decPhase = .len)
    (hf : c.decFpos = 0) (recs : List ChunkRecord) :
    parseAgrees (hostEnd (slice.foldl hostRound (c, recs)))
      (recs ++ (parseChunks n c.decCount slice).1, (parseChunks n c.decCount slice).2) := by
  induction n generalizing slice c recs with
  | zero =>
    rw [List.eq_nil_of_length_eq_zero (Nat.le_zero.mp hn)]
    exact parseAgrees_nil 0 hp hf recs
  | succ n ih =>
    by_cases hne : slice = []
    · rw [hne]
      exact parseAgrees_nil (n + 1) hp hf recs
    cases hchunk : parseChunk c.decCount slice with
    | error e =>
      rw [parseChunks_of_error hne hchunk, List.append_nil]
      exact parseAgrees_of_parseChunk_error hp hf hne hchunk recs
    | ok r =>
      obtain ⟨d, hdp, hdf, hcount, hfold⟩ := foldl_hostRound_of_parseChunk_ok hp hf hchunk recs
      rw [parseChunks_of_ok hne hchunk, hfold, ← hcount]
      have hshorter : (slice.drop (12 + r.len.toNat)).length ≤ n := by
        rw [List.length_drop]
        omega
      simpa only [List.append_assoc, List.singleton_append] using ih _ hshorter hdp hdf (recs ++ [r])

/-- After START_FILE the host's rounds on a buffer agree with the source's parse of a file (R608, R634). -/
theorem parseAgrees_parseFile (buffer : List Byte) (c : Ccb) :
    parseAgrees (hostEnd (buffer.foldl hostRound (decInit .sig true c, []))) (parseFile buffer) := by
  have hsig : Config.pngSig.toList = sigRest (decInit .sig true c).decFpos := rfl
  have hcut : buffer.take 8 ++ buffer.drop 8 = buffer := List.take_append_drop 8 buffer
  rw [parseFile, hsig]
  obtain ⟨heq, hfed⟩ | ⟨hne, hpre, hfed⟩ | ⟨hpre, herr, hbad⟩ :=
    feedBytes_signature (buffer.take 8) (c := decInit .sig true c) rfl (List.length_take_le 8 buffer)
  · -- the whole signature: a chunk boundary after eight bytes
    have hlen : (buffer.take 8).length = 8 := congrArg List.length heq
    have hfold : (buffer.take 8).foldl hostRound (decInit .sig true c, []) =
        ({ decInit .len true c with decCount := 8 }, []) := by
      rw [foldl_hostRound _ _ (by rw [hfed]; nofun), hfed, hlen]
      rfl
    have hdrop : (buffer.drop 8).length ≤ buffer.length := by rw [List.length_drop]; omega
    rw [if_neg (not_not.mpr heq)]
    nth_rw 1 [← hcut]
    rw [List.foldl_append, hfold]
    exact parseAgrees_parseChunks buffer.length (buffer.drop 8) hdrop rfl rfl []
  · -- the buffer ends inside the signature
    have hlen : (buffer.take 8).length < 8 :=
      Nat.lt_of_le_of_ne (List.length_take_le 8 buffer) fun h => hne (hpre.eq_of_length h)
    have hall : buffer.take 8 = buffer := List.take_of_length_le (by rw [List.length_take] at hlen; omega)
    rw [if_pos hne]
    rw [hall] at hfed
    exact parseAgrees_of_end [] (by rw [hfed]; rfl) (endInput_sig (by rw [hfed]; rfl))
  · -- a wrong byte
    have hne : buffer.take 8 ≠ sigRest (decInit .sig true c).decFpos := fun h => hpre (by rw [h])
    rw [if_pos hne]
    refine parseAgrees_of_error [] ?_
    rw [← hcut, feedBytes_append]
    exact feedBytes_error herr hbad _

/-- Settles O49: the host's procedure is `hostRound` and `hostEnd` on the elements, which agree with the source's parse
after START_FILE and after START_STREAM. -/
theorem hostParseAgreesWithTheSource : Obligations.HostParseAgreesWithTheSource := by
  intro buffer s p hp
  simp only [List.mem_cons, List.not_mem_nil, or_false] at hp
  obtain rfl | rfl := hp
  · show parseAgrees (onElements (hostParse .cmdDecStartFile buffer s)) (parseFile buffer)
    rw [hostParse_onElements buffer s rfl (exec_cmdDecStartFile s)]
    exact parseAgrees_parseFile buffer s.ccb
  · show parseAgrees (onElements (hostParse .cmdDecStartStream buffer s)) (parseStream buffer)
    rw [hostParse_onElements buffer s rfl (exec_cmdDecStartStream s)]
    exact parseAgrees_parseChunks buffer.length buffer le_rfl (c := decInit .len false s.ccb) rfl rfl []

end Sys2Proof.Machine
end

section
/-! The family 43_control: which accesses complete, the commands of the control unit, STATUS and IRQ_EN, and the
accesses of the read-only and write-only registers. -/

namespace Sys2Proof.Machine

/-! ### Bus errors (R710) -/

/-- The accesses of R710. -/
theorem namesNoRegister_iff (size : BitVec 2) (off : BitVec 7) :
    namesNoRegister size off = true ↔ size ≠ 0b10 ∨ off.extractLsb' 0 2 ≠ 0 ∨ 0x50 ≤ off := by
  simp [namesNoRegister, or_assoc]

/-- An access of a register completes: of all instructions only BUS_ERROR does not. -/
theorem exec_decode_of_namesRegister {d : Descriptor} (h : namesNoRegister (sizeField d) (offField d) = false)
    (s : State) : ∃ t, exec (decode d) s = .next t := by
  obtain ⟨size, w, off, data, hi, -⟩ | hn := exec_cases (decode d)
  · have hbad : namesNoRegister (sizeField d) (offField d) = true :=
      (mnemonic_decode_eq_busError d).mp (by rw [hi]; rfl)
    rw [h] at hbad
    cases hbad
  · exact ⟨_, hn s⟩

/-- A run that goes on after a bus error finds every element as it was (log entry 3). -/
theorem serve_ccb_of_busError {d : Descriptor} {size : BitVec 2} {w : BitVec 1} {off : BitVec 7} {data : Word}
    (h : decode d = .busError size w off data) (s : State) : (serve s (.access d)).ccb = s.ccb := by
  simp only [serve, h, exec_busError]

/-- Settles O21: an access that names no register is BUS_ERROR, and every other access completes. -/
theorem accessFaultsExactlyWhenItNamesNoRegister : Obligations.AccessFaultsExactlyWhenItNamesNoRegister := by
  intro size w off data s
  dsimp only
  rw [← namesNoRegister_iff]
  refine ⟨fun hbad => ?_, fun hgood => exec_decode_of_namesRegister (by simpa using hgood) s⟩
  have hd := decode_of_namesNoRegister hbad w data
  exact ⟨hd, exec_busError size w off data s, serve_ccb_of_busError hd s⟩

/-! ### CMD writes (R700 to R703) -/

/-- The command words of R305, by RSVD and OPCODE. -/
theorem namesCommand_eq_false_iff (data : Word) :
    namesCommand data = false ↔ data.extractLsb' 8 24 ≠ 0 ∨
      data.extractLsb' 0 8 ∉ ([0x00, 0x01, 0x10, 0x11, 0x12, 0x13, 0x14, 0xFF] : List Byte) := by
  simp [namesCommand, ← imp_iff_not_or]

/-- A CMD write decodes by its word. -/
theorem decode_cmdWrite (data : Word) : decode (descriptor 0b10 1 0x00 data) = decodeCommand data :=
  decode_writeDescriptor .cmd data

/-- A CMD write of an illegal word is CMD_ILLEGAL (R703). -/
theorem decode_cmdWrite_illegal {data : Word} (h : namesCommand data = false) :
    decode (descriptor 0b10 1 0x00 data) = .cmdIllegal data :=
  (decode_cmdWrite data).trans (decodeCommand_of_namesCommand_eq_false h)

/-- Settles O11: the two words are decoded, and `exec_cmdNop` gives the effect. -/
theorem nopChangesNothing : Obligations.NopChangesNothing :=
  ⟨decode_cmdWrite 0, decode_cmdWrite_illegal (by decide), fun s => ⟨_, exec_cmdNop s, rfl⟩⟩

/-- Settles O12: SOFT_RESET and a hardware reset have one effect. -/
theorem softResetIsHardwareReset : Obligations.SoftResetIsHardwareReset :=
  ⟨decode_cmdWrite 0xFF, fun s =>
    ⟨_, exec_cmdSoftReset s, rfl, (by decide : irq Ccb.reset = false), (hardwareReset_ccb s).symm⟩⟩

/-- Settles O13, by `decode_cmdWrite_illegal`. -/
theorem illegalCommandSetsOnlyCmdErr : Obligations.IllegalCommandSetsOnlyCmdErr :=
  fun data h => ⟨decode_cmdWrite_illegal ((namesCommand_eq_false_iff data).mpr h),
    fun s => ⟨_, exec_cmdIllegal data s, rfl⟩⟩

/-- The OPCODE of a word that names a command selects it (R305). -/
theorem decodeCommand_of_opcode {data : Word} (hcmd : namesCommand data = true) :
    (data.extractLsb' 0 8 = 0x00 → decodeCommand data = .cmdNop) ∧
    (data.extractLsb' 0 8 = 0x01 → decodeCommand data = .cmdCrcInit) ∧
    (data.extractLsb' 0 8 = 0x10 → decodeCommand data = .cmdDecStartFile) ∧
    (data.extractLsb' 0 8 = 0x11 → decodeCommand data = .cmdDecStartStream) ∧
    (data.extractLsb' 0 8 = 0x12 → decodeCommand data = .cmdDecEnd) ∧
    (data.extractLsb' 0 8 = 0x13 → decodeCommand data = .cmdDecAck) ∧
    (data.extractLsb' 0 8 = 0x14 → decodeCommand data = .cmdDecAbort) ∧
    (data.extractLsb' 0 8 = 0xFF → decodeCommand data = .cmdSoftReset) := by
  obtain ⟨hrsvd, -⟩ : data.extractLsb' 8 24 = 0 ∧ _ := by
    rwa [namesCommand, Bool.and_eq_true, beq_iff_eq] at hcmd
  refine ⟨?_, ?_, ?_, ?_, ?_, ?_, ?_, ?_⟩ <;> intro hop <;> rw [decodeCommand, if_pos hrsvd, hop] <;> rfl

/-- A command performed in a phase that R700 allows it in keeps CMD_ERR, but for SOFT_RESET. -/
theorem exec_decodeCommand_accepted {data : Word} (hcmd : namesCommand data = true) {s : State}
    (hend : data.extractLsb' 0 8 = 0x12 → accepting s.ccb.decPhase = true)
    (hack : data.extractLsb' 0 8 = 0x13 → s.ccb.decPhase = .ready) :
    ∃ t, exec (decodeCommand data) s = .next t ∧
      (decodeCommand data ≠ .cmdSoftReset → t.ccb.cmdErr = s.ccb.cmdErr) := by
  have hmem := mem_commands_of_namesCommand hcmd
  simp only [List.mem_cons, List.not_mem_nil, or_false] at hmem
  obtain rfl | rfl | rfl | rfl | rfl | rfl | rfl | rfl := hmem
  · exact ⟨_, exec_cmdNop s, fun _ => rfl⟩
  · exact ⟨_, exec_cmdCrcInit s, fun _ => rfl⟩
  · exact ⟨_, exec_cmdDecStartFile s, fun _ => rfl⟩
  · exact ⟨_, exec_cmdDecStartStream s, fun _ => rfl⟩
  · exact ⟨_, exec_cmdDecEnd s, fun _ => by simp [endInput_cmdErr, hend rfl]⟩
  · exact ⟨_, exec_cmdDecAck s, fun _ => by simp [hack rfl]⟩
  · exact ⟨_, exec_cmdDecAbort s, fun _ => rfl⟩
  · exact ⟨_, exec_cmdSoftReset s, fun h => absurd rfl h⟩

/-- Settles O14: the four branches of R700. -/
theorem commandDispatchOrder : Obligations.CommandDispatchOrder := by
  intro data s
  simp only [decode_cmdWrite, ← namesCommand_eq_false_iff, ← accepting_eq_false_iff]
  cases hcmd : namesCommand data with
  | false =>
    rw [if_pos rfl, decodeCommand_of_namesCommand_eq_false hcmd]
    exact ⟨rfl, _, exec_cmdIllegal data s, rfl⟩
  | true =>
    obtain ⟨hnop, hinit, hfile, hstream, hend, hack, habort, hreset⟩ := decodeCommand_of_opcode hcmd
    rw [if_neg (by decide)]
    split_ifs with hearlyEnd hearlyAck
    · obtain ⟨hop, hphase⟩ := hearlyEnd
      rw [hend hop]
      exact ⟨rfl, _, exec_cmdDecEnd s, endInput_rejected hphase⟩
    · obtain ⟨hop, hphase⟩ := hearlyAck
      rw [hack hop]
      exact ⟨rfl, _, exec_cmdDecAck s, if_neg hphase⟩
    · exact ⟨hnop, hinit, hfile, hstream, hend, hack, habort, hreset, exec_decodeCommand_accepted hcmd
        (fun hop => by simpa [hop] using hearlyEnd) (fun hop => by simpa [hop] using hearlyAck)⟩

/-! ### STATUS and IRQ_EN (R704 to R707) -/

/-- STATUS[3] is 0 (R125). -/
theorem statusWord_bit3 (c : Ccb) : (statusWord c).getLsbD 3 = false := by
  simp only [statusWord, BitVec.getLsbD_setWidth, BitVec.getLsbD_append]; simp

/-- STATUS[7:4] is the code of DEC_ERR (R125). -/
theorem statusWord_errCode (c : Ccb) : (statusWord c).extractLsb' 4 4 = errCode c.decErr := by
  apply BitVec.eq_of_getLsbD_eq
  intro i hi
  simp only [statusWord, BitVec.getLsbD_extractLsb', BitVec.getLsbD_setWidth, BitVec.getLsbD_append, hi]
  grind

/-- STATUS[31:10] is 0 (R125). -/
theorem statusWord_getLsbD_of_ge (c : Ccb) {n : Nat} (hn : 10 ≤ n) : (statusWord c).getLsbD n = false := by
  rw [statusWord, BitVec.getLsbD_setWidth, BitVec.getLsbD_of_ge _ _ hn, Bool.and_false]

/-- Settles O15: the fields of `statusWord`, with the number of each error code. -/
theorem statusReadsByLayout : Obligations.StatusReadsByLayout := by
  intro data s
  refine ⟨decode_descriptor_read .status data, _, _, exec_rdStatus s, rfl, rfl, ?_⟩
  rw [statusWord_errCode]
  refine ⟨by simp, by simp, by simp, statusWord_bit3 s.ccb, ?_, ?_, ?_, ?_, ?_, ?_, statusWord_cmdErr s.ccb,
    statusWord_ovf s.ccb, fun n hn => statusWord_getLsbD_of_ge s.ccb hn⟩ <;> intro herr <;> rw [herr] <;> rfl

/-- Settles O16: each flag is cleared by its strobe (`exec_wrStatus`). -/
theorem statusWriteClearsStrobedFlags : Obligations.StatusWriteClearsStrobedFlags := by
  have hflag (strobe flag : Bool) : (if strobe then false else flag) = (flag && !strobe) := by
    cases strobe <;> simp
  refine fun data s => ⟨decode_writeDescriptor .status data, _, exec_wrStatus data s, ?_⟩
  dsimp only
  rw [hflag, hflag, clearsCmdErr, clearsOvf]

/-- Settles O17: the write, the read, and the one after the other. -/
theorem irqEnStoresAndReadsImplementedBits : Obligations.IrqEnStoresAndReadsImplementedBits := by
  refine ⟨fun data s => ⟨decode_writeDescriptor .irqEn data, _, exec_wrIrqEn data s, rfl⟩,
    fun data s => ⟨decode_descriptor_read .irqEn data, _, exec_rdIrqEn s, rfl, rfl⟩, fun data s => ?_⟩
  refine ⟨_, (execAll_cons_next (exec_wrIrqEn data s)).trans (execAll_cons_next (exec_rdIrqEn _)), ?_⟩
  exact List.append_assoc s.log [.written] [.value (data &&& 0x00000307)]

/-! ### Registers of one direction (R124, R708, R709) -/

/-- The write-only registers (R124): their reads are the rows of R708. -/
def writeOnlyRegs : List Reg := [.cmd, .crcData8, .crcData32, .decData8]

/-- The read-only registers (R124): their writes are the rows of R709. -/
def readOnlyRegs : List Reg :=
  [.crcState, .crcResult, .tagFlags, .decState, .decCount, .decRemain, .chLen, .chType, .chFlags, .chCrcStored,
    .chCrcCalc, .chOffset, .chCount]

/-- A read of a write-only register gives 0 (R708). -/
theorem exec_decodeRead_of_writeOnly {r : Reg} (hr : r ∈ writeOnlyRegs) (s : State) :
    exec (decodeRead r) s = completeRead 0 s := by
  cases r
  case cmd | crcData8 | crcData32 | decData8 => rfl
  all_goals exact absurd hr (by decide)

/-- A write of a read-only register changes no element (R709). -/
theorem exec_decodeWrite_of_readOnly {r : Reg} (hr : r ∈ readOnlyRegs) (data : Word) (s : State) :
    exec (decodeWrite r data) s = completeWrite s.ccb s := by
  cases r
  case cmd | status | irqEn | crcData8 | crcData32 | tagIn | decData8 => exact absurd hr (by decide)
  all_goals rfl

/-- Settles O19, by `exec_decodeRead_of_writeOnly`. -/
theorem writeOnlyRegistersReadZero : Obligations.WriteOnlyRegistersReadZero := by
  intro data s p hp
  obtain ⟨r, hr, rfl⟩ : ∃ r ∈ writeOnlyRegs, (regOffset r, decodeRead r) = p := List.mem_map.mp hp
  exact ⟨decode_descriptor_read r data, _, exec_decodeRead_of_writeOnly hr s, rfl, rfl⟩

/-- Settles O20, by `exec_decodeWrite_of_readOnly`. -/
theorem readOnlyRegistersIgnoreWrites : Obligations.ReadOnlyRegistersIgnoreWrites := by
  intro data s p hp
  obtain ⟨r, hr, rfl⟩ : ∃ r ∈ readOnlyRegs, (regOffset r, decodeWrite r data) = p := List.mem_map.mp hp
  exact ⟨decode_writeDescriptor r data, _, exec_decodeWrite_of_readOnly hr data s, rfl⟩

end Sys2Proof.Machine
end

section
/-! The family 60_exceptions: what sets the sticky flags CMD_ERR and OVF. -/

namespace Sys2Proof.Machine

/-- CMD_ERR by access: a rejected command sets it, SOFT_RESET and the W1C strobe clear it, any other access keeps it
(R104, R700, R705). -/
theorem exec_cmdErr {i : Instr} {s t : State} (h : exec i s = .next t) :
    t.ccb.cmdErr = s.ccb.cmdErr ∨
    (t.ccb.cmdErr = false ∧ (i = .cmdSoftReset ∨ ∃ data, i = .wrStatus data ∧ clearsCmdErr data = true)) ∨
    (t.ccb.cmdErr = true ∧ ((∃ data, i = .cmdIllegal data) ∨
      (i = .cmdDecEnd ∧ accepting s.ccb.decPhase = false) ∨ (i = .cmdDecAck ∧ s.ccb.decPhase ≠ .ready))) := by
  rcases exec_effects h with
    ⟨-, -, -, e⟩ | ⟨rfl, e⟩ | ⟨rfl, e⟩ | ⟨_, rfl, e⟩ | ⟨_, rfl, e⟩ | ⟨_, rfl, e⟩ | ⟨_, rfl, e⟩ | ⟨data, rfl, e⟩ |
    ⟨data, rfl, e⟩ | ⟨rfl, e⟩ | ⟨rfl, e⟩ | ⟨rfl, e⟩ | ⟨rfl, e⟩ | ⟨rfl, -, e⟩ | ⟨rfl, hp, e⟩ | ⟨_, rfl, e⟩
  -- the effects that keep the flag in every state; five remain
  any_goals (refine .inl ?_; simp [e]; done)
  · -- SOFT_RESET
    exact .inr (.inl ⟨by rw [e]; rfl, .inl rfl⟩)
  · -- WR_STATUS
    cases hc : clearsCmdErr data <;> simp [e, hc]
  · -- CMD_ILLEGAL
    exact .inr (.inr ⟨by rw [e]; rfl, .inl ⟨data, rfl⟩⟩)
  · -- END
    cases ha : accepting s.ccb.decPhase <;> simp [e, ha, endInput_cmdErr]
  · -- ACK outside READY
    exact .inr (.inr ⟨by rw [e]; rfl, .inr (.inr ⟨rfl, hp⟩)⟩)

/-- OVF by access: a dropped byte sets it, SOFT_RESET and the W1C strobe clear it, any other access keeps it
(R105, R607, R705). -/
theorem exec_ovf {i : Instr} {s t : State} (h : exec i s = .next t) :
    t.ccb.ovf = s.ccb.ovf ∨
    (t.ccb.ovf = false ∧ (i = .cmdSoftReset ∨ ∃ data, i = .wrStatus data ∧ clearsOvf data = true)) ∨
    (t.ccb.ovf = true ∧ (∃ data, i = .wrDecData8 data) ∧ accepting s.ccb.decPhase = false) := by
  rcases exec_effects h with
    ⟨-, -, -, e⟩ | ⟨rfl, e⟩ | ⟨rfl, e⟩ | ⟨_, rfl, e⟩ | ⟨_, rfl, e⟩ | ⟨_, rfl, e⟩ | ⟨_, rfl, e⟩ | ⟨data, rfl, e⟩ |
    ⟨_, rfl, e⟩ | ⟨rfl, e⟩ | ⟨rfl, e⟩ | ⟨rfl, e⟩ | ⟨rfl, e⟩ | ⟨rfl, -, e⟩ | ⟨rfl, -, e⟩ | ⟨_, rfl, e⟩
  -- the effects that keep the flag in every state; three remain
  any_goals (refine .inl ?_; simp [e]; done)
  · -- SOFT_RESET
    exact .inr (.inl ⟨by rw [e]; rfl, .inl rfl⟩)
  · -- WR_STATUS
    cases hc : clearsOvf data <;> simp [e, hc]
  · -- WR_DEC_DATA8
    cases ha : accepting s.ccb.decPhase <;> simp [e, ha, feedByte_ovf]

/-- Settles O56: an access that turns a flag from 0 to 1 is in the setting case of `exec_cmdErr` or of `exec_ovf`. -/
theorem flagsAreSetOnlyByTheirCauses : Obligations.FlagsAreSetOnlyByTheirCauses := by
  intro i s t h
  simp only [← accepting_eq_false_iff]
  refine ⟨fun hs ht => ?_, fun hs ht => ?_⟩
  · obtain hkept | ⟨hcleared, -⟩ | ⟨-, hcause⟩ := exec_cmdErr h
    · exact absurd (ht.symm.trans (hkept.trans hs)) nofun
    · exact absurd (ht.symm.trans hcleared) nofun
    · exact hcause
  · obtain hkept | ⟨hcleared, -⟩ | ⟨-, hcause⟩ := exec_ovf h
    · exact absurd (ht.symm.trans (hkept.trans hs)) nofun
    · exact absurd (ht.symm.trans hcleared) nofun
    · exact hcause

end Sys2Proof.Machine
end

section
/-! The family 70_reset_and_hazards: the reset values, the outcome every access records, and which accesses change the
control elements. -/

namespace Sys2Proof.Machine

/-- Settles O10: the 18 elements are those of `Ccb.reset`, and the derived words are evaluated on them. -/
theorem resetStateHoldsTheSpecValues : Obligations.ResetStateHoldsTheSpecValues :=
  ⟨rfl, rfl, rfl, rfl, rfl, rfl, rfl, rfl, rfl, rfl, rfl, rfl, rfl, rfl, rfl, rfl, rfl, rfl, by decide⟩

/-! ### The outcome of an access (R914, R206) -/

/-- A read answers one value. -/
theorem answersOf_of_isRead {i : Instr} (hi : isRead i = true) (c : Ccb) : ∃ v, answersOf i c = [.value v] := by
  cases i <;> cases hi
  -- the reads are left
  all_goals exact ⟨_, rfl⟩

/-- Every other access that completes answers "written". -/
theorem answersOf_of_not_isRead {i : Instr} (hi : isRead i = false)
    (hb : ∀ size w off data, i ≠ .busError size w off data) (c : Ccb) : answersOf i c = [.written] := by
  cases i
  case busError size w off data => exact absurd rfl (hb size w off data)
  all_goals cases hi
  -- the writes are left
  all_goals rfl

/-- An access that completes is no BUS_ERROR. -/
theorem ne_busError_of_exec_next {i : Instr} {s t : State} (h : exec i s = .next t) (size : BitVec 2) (w : BitVec 1)
    (off : BitVec 7) (data : Word) : i ≠ .busError size w off data := by
  rintro rfl
  rw [exec_busError] at h
  cases h

/-- Settles O9: the port is kept and the answer appended (`exec_next`), and the answer is one outcome. -/
theorem eachAccessRecordsOneOutcome : Obligations.EachAccessRecordsOneOutcome := by
  intro i s t h
  obtain ⟨-, hpending, hlog⟩ := exec_next h
  refine ⟨hpending, fun hread => ?_, fun hwrite => ?_⟩
  · obtain ⟨v, hv⟩ := answersOf_of_isRead hread s.ccb
    exact ⟨v, by rw [hlog, hv]⟩
  · rw [hlog, answersOf_of_not_isRead hwrite (ne_busError_of_exec_next h)]

/-- An access that completes records one outcome, which is no bus error. -/
theorem exec_outcome {i : Instr} {s t : State} (h : exec i s = .next t) :
    ∃ r, t.log = s.log ++ [r] ∧ ∀ w size off, r ≠ .busError w size off := by
  obtain ⟨-, hread, hwrite⟩ := eachAccessRecordsOneOutcome i s t h
  cases hi : isRead i with
  | true =>
    obtain ⟨v, hv⟩ := hread hi
    exact ⟨.value v, hv, nofun⟩
  | false => exact ⟨.written, hwrite hi, nofun⟩

/-! ### The outcomes of a run (R914, R913) -/

/-- An access served records one outcome, a bus error only where it names no register (R710, log entry 3). -/
theorem serve_access_outcome (d : Descriptor) (s : State) :
    ∃ r, (serve s (.access d)).log = s.log ++ [r] ∧
      (namesNoRegister (sizeField d) (offField d) = false → ∀ w size off, r ≠ .busError w size off) := by
  cases hd : namesNoRegister (sizeField d) (offField d) with
  | true =>
    refine ⟨.busError (writeField d) (sizeField d) (offField d), ?_, nofun⟩
    simp only [serve, decode_eq_busError hd, exec_busError]
  | false =>
    obtain ⟨t, ht⟩ := exec_decode_of_namesRegister hd s
    obtain ⟨r, hlog, hr⟩ := exec_outcome ht
    exact ⟨r, by simp only [serve, ht, hlog], fun _ => hr⟩

/-- A run records as many outcomes as it has accesses; none is a bus error where every access names a register. -/
theorem hostRun_outcomes (es : List HostEvent) (s : State) :
    ∃ rs, (hostRun es s).log = s.log ++ rs ∧ rs.length = (es.filter (fun e => e != .reset)).length ∧
      (noBusError es → ∀ w size off, Response.busError w size off ∉ rs) := by
  induction es generalizing s with
  | nil => exact ⟨[], (List.append_nil s.log).symm, rfl, fun _ _ _ _ => List.not_mem_nil⟩
  | cons e es ih =>
    obtain ⟨rs, hlog, hlen, hrs⟩ := ih (serve s e)
    have htail (h : noBusError (e :: es)) : noBusError es := fun d hd => h d (List.mem_cons_of_mem e hd)
    cases e with
    | reset => exact ⟨rs, hlog, hlen, fun h => hrs (htail h)⟩
    | access d =>
      obtain ⟨r, hserve, hr⟩ := serve_access_outcome d s
      refine ⟨r :: rs, ?_, congrArg (· + 1) hlen, fun h w size off hmem => ?_⟩
      · calc (hostRun es (serve s (.access d))).log
          _ = s.log ++ [r] ++ rs := by rw [hlog, hserve]
          _ = s.log ++ r :: rs := List.append_assoc s.log [r] rs
      · obtain heq | hmem := List.mem_cons.mp hmem
        · exact hr (h d List.mem_cons_self) w size off heq.symm
        · exact hrs (htail h) w size off hmem

/-- Settles O60: `hostRun_outcomes`, from the empty log. -/
theorem runsRecordEveryAccess : Obligations.RunsRecordEveryAccess := by
  intro es c
  obtain ⟨rs, hlog, hlen, hrs⟩ := hostRun_outcomes es { ccb := c, pending := [], log := [] }
  have hobs : (observe es c).outcomes = rs := hlog
  rw [hobs]
  exact ⟨hlen, hrs⟩

/-! ### Which accesses change TAG_IN and DEC_MODE (R102, R107) -/

/-- TAG_IN is kept, but by SOFT_RESET and by its own write. -/
theorem exec_tagIn {i : Instr} {s t : State} (h : exec i s = .next t) :
    i = .cmdSoftReset ∨ (∃ data, i = .wrTagIn data) ∨ t.ccb.tagIn = s.ccb.tagIn := by
  rcases exec_effects h with
    ⟨-, -, -, e⟩ | ⟨rfl, e⟩ | ⟨rfl, e⟩ | ⟨_, rfl, e⟩ | ⟨_, rfl, e⟩ | ⟨_, rfl, e⟩ | ⟨_, rfl, e⟩ | ⟨_, rfl, e⟩ |
    ⟨_, rfl, e⟩ | ⟨rfl, e⟩ | ⟨rfl, e⟩ | ⟨rfl, e⟩ | ⟨rfl, e⟩ | ⟨rfl, -, e⟩ | ⟨rfl, -, e⟩ | ⟨_, rfl, e⟩ <;>
    simp [e]

/-- DEC_MODE is kept, but by the accesses that restart the decoder (R605, R702): `exec_decoder_cases`. -/
theorem exec_decMode {i : Instr} {s t : State} (h : exec i s = .next t) :
    i ∈ restarts ∨ t.ccb.decMode = s.ccb.decMode := by
  obtain ⟨-, hmode, -⟩ | ⟨hi, -⟩ | ⟨-, -, e⟩ | ⟨-, _, -, e⟩ | ⟨-, e⟩ | ⟨-, _, -, e⟩ := exec_decoder_cases h
  · exact .inr hmode
  · exact .inl hi
  -- END, an error entered, ACK and an accepted byte keep DEC_MODE
  all_goals exact .inr (by simp [e])

/-- The cause for which a flag that is kept, cleared or set turns from 1 to 0. -/
theorem cause_of_cleared {old new : Bool} {clears sets : Prop}
    (h : new = old ∨ (new = false ∧ clears) ∨ (new = true ∧ sets)) (hold : old = true) (hnew : new = false) : clears := by
  obtain hkept | ⟨-, hcause⟩ | ⟨hset, -⟩ := h
  · exact absurd (hnew.symm.trans (hkept.trans hold)) nofun
  · exact hcause
  · exact absurd (hnew.symm.trans hset) nofun

/-- Settles O55: an access that changes an element is not in the keeping case of its lemma, and one that clears a flag is
in the clearing case of `exec_cmdErr` or of `exec_ovf`. -/
theorem onlyNamedAccessesChangeControlElements : Obligations.OnlyNamedAccessesChangeControlElements := by
  intro i s t h hr
  refine ⟨fun hne => ?_, fun hne => ?_, fun hne => ?_, fun hs ht => ?_, fun hs ht => ?_⟩
  · obtain ⟨hi, -⟩ | ⟨data, hi, -⟩ | hkept := exec_irqEn h
    · exact absurd hi hr
    · exact ⟨data, hi⟩
    · exact absurd hkept hne
  · exact ((exec_tagIn h).resolve_left hr).resolve_right hne
  · simpa [hr] using (exec_decMode h).resolve_right hne
  · exact (cause_of_cleared (exec_cmdErr h) hs ht).resolve_left hr
  · exact (cause_of_cleared (exec_ovf h) hs ht).resolve_left hr

end Sys2Proof.Machine
end
